-- ==== Sys2Proof/Word.lean ====
section
/-! DEFINITION. The block's fixed widths (spec R8, R10): a byte is 8 bits, a word 16 bits, a bus address 7 bits.
All three are unsigned, and no value of the block is ever sign-extended (R10). -/

namespace Sys2Proof

/-- A byte: 8 bits, unsigned (R10). -/
abbrev Byte := BitVec 8

/-- A word: 16 bits, unsigned (R10). Request words, wire opcodes and data words are words (R8, R70). -/
abbrev Word := BitVec 16

/-- A device address of the two-wire bus: 7 bits (R8, R50). -/
abbrev Addr := BitVec 7

end Sys2Proof
end

