-- ==== Sys2Proof/Machine/Bytes.lean ====
section
/-! DEFINITION. Byte order: how a word is split into bytes and assembled from them (R10, R54, R55). High byte first,
always (R57). -/

namespace Sys2Proof.Machine

/-- hi8(w) = w[15:8] (R10). -/
def hi8 (w : Word) : Byte := w.extractLsb' 8 8

/-- lo8(w) = w[7:0] (R10). -/
def lo8 (w : Word) : Byte := w.extractLsb' 0 8

/-- be16(a, b) = a * 256 + b: the word whose high byte is a (R10, R55). -/
def be16 (a b : Byte) : Word := a ++ b

/-- The write bytes of a wire opcode, high byte first (R54, R79). -/
def opcodeBytes (op : Word) : List Byte := [hi8 op, lo8 op]

end Sys2Proof.Machine
end

