-- ==== Sys2Proof/Config.lean ====
section
/-! DEFINITION. The block's parameters (spec R7): plain data, a constant for the life of the block (R31).
The checks a configuration must pass (R9) are in WellFormed.lean; the default values are in Machine/Defaults.lean. -/

namespace Sys2Proof

/-- The five single-shot opcodes that are parameters (R122). The sixth, (High, enabled) = 0x2C06, is fixed by the
source and stands in Machine/Rom.lean. -/
structure CromSs where
  highOff   : Word
  mediumOn  : Word
  mediumOff : Word
  lowOn     : Word
  lowOff    : Word
  deriving DecidableEq, Repr

/-- The three periodic-start opcodes of one sample rate (one line of R123's table). -/
structure CromPerRow where
  high   : Word
  medium : Word
  low    : Word
  deriving DecidableEq, Repr

/-- The fifteen periodic-start opcodes, one row for each sample rate (R123). -/
structure CromPer where
  mps0_5 : CromPerRow
  mps1   : CromPerRow
  mps2   : CromPerRow
  mps4   : CromPerRow
  mps10  : CromPerRow
  deriving DecidableEq, Repr

/-- An output encoding of the temperature the source leaves open (R182): which rational the encoding numbered n
holds for a given exact temperature. UNINTERPRETED: nothing fixes a value of it (log entry 3). -/
opaque Config.tempFormat : Nat → Rat → Rat

/-- TEMP_ROUND (R7, R182), as plain data: the identity, or one of the encodings the source does not describe. -/
inductive TempRound where
  /-- the exact rational is kept (the model's default, R182) -/
  | identity
  /-- some encoding, numbered n, of which nothing is known -/
  | format (n : Nat)
  deriving DecidableEq, Repr

/-- The parameters of R7, each under the spec's name for it. -/
structure Config where
  /-- DEV_ADDR: the address of the one sensor the block is bound to (OPEN in the spec). -/
  devAddr     : Addr
  /-- SS_LEN: the read length of a single-shot temperature, 3 or 6 (checked by R9(c)). -/
  ssLen       : Nat
  /-- PER_LEN: the read length of a periodic temperature, 3 or 6 (checked by R9(c)). -/
  perLen      : Nat
  /-- VERIFY_WORD1: whether the second word of a 6-byte temperature frame is checked (R59). -/
  verifyWord1 : Bool
  /-- CROM_SS. -/
  cromSs      : CromSs
  /-- CROM_PER. -/
  cromPer     : CromPer
  /-- GC_ADDR: the broadcast address of BUS_RESET. -/
  gcAddr      : Addr
  /-- GC_PAYLOAD: the bytes BUS_RESET writes. -/
  gcPayload   : List Byte
  /-- HEATER_BYTE: which status byte holds the heater bit. -/
  heaterByte  : Fin 2
  /-- HEATER_BIT: which bit of that byte it is. -/
  heaterBit   : Fin 8
  /-- TEMP_ROUND: the output encoding of RES_TEMP. -/
  tempRound   : TempRound
  deriving DecidableEq, Repr

end Sys2Proof
end

