-- ==== Sys2Proof/Syntax.lean ====
section
/-! DEFINITION. The block's requests as syntax: the enumerated operands (R72 to R74), the eleven operations (R71) and
the thirty legal requests, one constructor for each row of spec/opcode_table.json (R83). A request of this type is
also a command-ROM key (R120): the decoder turns a request word into one, or rejects it. -/

namespace Sys2Proof

/-- RepeatabilityLevel (R72). -/
inductive Rep where
  | low
  | medium
  | high
  deriving DecidableEq, Repr

/-- Clock-stretching mode (R74). -/
inductive Stretch where
  | disabled
  | enabled
  deriving DecidableEq, Repr

/-- SampleRateTier, in measurements per second (R73). -/
inductive Rate where
  | mps0_5
  | mps1
  | mps2
  | mps4
  | mps10
  deriving DecidableEq, Repr

/-- The eleven operations, in the order of R71. -/
inductive Op where
  | ssTemp
  | perStart
  | perRead
  | perEnd
  | heaterOn
  | heaterOff
  | readId
  | softReset
  | busReset
  | readStatus
  | clearStatus
  deriving DecidableEq, Repr

/-- The legal requests: the thirty rows of spec/opcode_table.json (R83), each with its request word. They have no
operands left: REP, RATE and STR select the row (R78). Every term of this type is well formed, so the checks of
WellFormed.lean are about the fields of a request WORD and about the configuration. -/
inductive Instr where
  | ssTempLowNostretch -- 0x0001 SS_TEMP_LOW__NOSTRETCH
  | ssTempMediumNostretch -- 0x0011 SS_TEMP_MEDIUM__NOSTRETCH
  | ssTempHighNostretch -- 0x0021 SS_TEMP_HIGH__NOSTRETCH
  | ssTempLowStretch -- 0x0201 SS_TEMP_LOW__STRETCH
  | ssTempMediumStretch -- 0x0211 SS_TEMP_MEDIUM__STRETCH
  | ssTempHighStretch -- 0x0221 SS_TEMP_HIGH__STRETCH
  | perStartMps0_5Low -- 0x0002 PER_START_MPS0_5__LOW
  | perStartMps0_5Medium -- 0x0012 PER_START_MPS0_5__MEDIUM
  | perStartMps0_5High -- 0x0022 PER_START_MPS0_5__HIGH
  | perStartMps1Low -- 0x0042 PER_START_MPS1__LOW
  | perStartMps1Medium -- 0x0052 PER_START_MPS1__MEDIUM
  | perStartMps1High -- 0x0062 PER_START_MPS1__HIGH
  | perStartMps2Low -- 0x0082 PER_START_MPS2__LOW
  | perStartMps2Medium -- 0x0092 PER_START_MPS2__MEDIUM
  | perStartMps2High -- 0x00a2 PER_START_MPS2__HIGH
  | perStartMps4Low -- 0x00c2 PER_START_MPS4__LOW
  | perStartMps4Medium -- 0x00d2 PER_START_MPS4__MEDIUM
  | perStartMps4High -- 0x00e2 PER_START_MPS4__HIGH
  | perStartMps10Low -- 0x0102 PER_START_MPS10__LOW
  | perStartMps10Medium -- 0x0112 PER_START_MPS10__MEDIUM
  | perStartMps10High -- 0x0122 PER_START_MPS10__HIGH
  | perRead -- 0x0003 PER_READ
  | perEnd -- 0x0004 PER_END
  | heaterOn -- 0x0005 HEATER_ON
  | heaterOff -- 0x0006 HEATER_OFF
  | readId -- 0x0007 READ_ID
  | softReset -- 0x0008 SOFT_RESET
  | busReset -- 0x0009 BUS_RESET
  | readStatus -- 0x000a READ_STATUS
  | clearStatus -- 0x000b CLEAR_STATUS
  deriving DecidableEq, Repr

/-- Every request, in the table's order. -/
def Instr.all : List Instr :=
  [.ssTempLowNostretch, .ssTempMediumNostretch, .ssTempHighNostretch,
   .ssTempLowStretch, .ssTempMediumStretch, .ssTempHighStretch] ++
  [.perStartMps0_5Low, .perStartMps0_5Medium, .perStartMps0_5High,
   .perStartMps1Low, .perStartMps1Medium, .perStartMps1High,
   .perStartMps2Low, .perStartMps2Medium, .perStartMps2High,
   .perStartMps4Low, .perStartMps4Medium, .perStartMps4High,
   .perStartMps10Low, .perStartMps10Medium, .perStartMps10High] ++
  [.perRead, .perEnd, .heaterOn, .heaterOff, .readId,
   .softReset, .busReset, .readStatus, .clearStatus]

end Sys2Proof
end

