-- ==== Sys2Proof/Machine/Rom.lean ====
section
/-! DEFINITION. The command-opcode ROM, CROM (spec 41_command_rom.md): a total lookup from a request to the
transaction it issues, one arm per request with no wildcard (R120). The fixed opcodes are R121's; the others are
parameters of the configuration (R122, R123). -/

namespace Sys2Proof.Machine

/-- The wire opcode of a request (R121 to R123). BUS_RESET has none: its row is R125's. -/
def opcode (c : Config) : Instr → Option Word
  | .ssTempLowNostretch => some c.cromSs.lowOff
  | .ssTempMediumNostretch => some c.cromSs.mediumOff
  | .ssTempHighNostretch => some c.cromSs.highOff
  | .ssTempLowStretch => some c.cromSs.lowOn
  | .ssTempMediumStretch => some c.cromSs.mediumOn
  | .ssTempHighStretch => some 0x2C06#16
  | .perStartMps0_5Low => some c.cromPer.mps0_5.low
  | .perStartMps0_5Medium => some c.cromPer.mps0_5.medium
  | .perStartMps0_5High => some c.cromPer.mps0_5.high
  | .perStartMps1Low => some c.cromPer.mps1.low
  | .perStartMps1Medium => some c.cromPer.mps1.medium
  | .perStartMps1High => some c.cromPer.mps1.high
  | .perStartMps2Low => some c.cromPer.mps2.low
  | .perStartMps2Medium => some c.cromPer.mps2.medium
  | .perStartMps2High => some c.cromPer.mps2.high
  | .perStartMps4Low => some c.cromPer.mps4.low
  | .perStartMps4Medium => some c.cromPer.mps4.medium
  | .perStartMps4High => some c.cromPer.mps4.high
  | .perStartMps10Low => some c.cromPer.mps10.low
  | .perStartMps10Medium => some c.cromPer.mps10.medium
  | .perStartMps10High => some c.cromPer.mps10.high
  | .perRead => some 0xE000#16
  | .perEnd => some 0x3093#16
  | .heaterOn => some 0x306D#16
  | .heaterOff => some 0x3066#16
  | .readId => some 0x7029#16
  | .softReset => some 0x30A2#16
  | .busReset => none
  | .readStatus => some 0xF32D#16
  | .clearStatus => some 0x3041#16

/-- The read length rlen(k) of a request (R124). 0 is a write-only command. -/
def readLen (c : Config) : Instr → Nat
  | .ssTempLowNostretch => c.ssLen
  | .ssTempMediumNostretch => c.ssLen
  | .ssTempHighNostretch => c.ssLen
  | .ssTempLowStretch => c.ssLen
  | .ssTempMediumStretch => c.ssLen
  | .ssTempHighStretch => c.ssLen
  | .perStartMps0_5Low => 0
  | .perStartMps0_5Medium => 0
  | .perStartMps0_5High => 0
  | .perStartMps1Low => 0
  | .perStartMps1Medium => 0
  | .perStartMps1High => 0
  | .perStartMps2Low => 0
  | .perStartMps2Medium => 0
  | .perStartMps2High => 0
  | .perStartMps4Low => 0
  | .perStartMps4Medium => 0
  | .perStartMps4High => 0
  | .perStartMps10Low => 0
  | .perStartMps10Medium => 0
  | .perStartMps10High => 0
  | .perRead => c.perLen
  | .perEnd => 0
  | .heaterOn => 0
  | .heaterOff => 0
  | .readId => 9
  | .softReset => 0
  | .busReset => 0
  | .readStatus => 3
  | .clearStatus => 0

/-- A row of the command ROM: the bus address, the write bytes and the read length (R120). -/
structure RomRow where
  addr   : Addr
  wbytes : List Byte
  rlen   : Nat
  deriving DecidableEq, Repr

/-- LOOKUP, rom(k) (R120): a sensor command goes to DEV_ADDR with its opcode high byte first (R54, R79), the bus
reset to GC_ADDR with GC_PAYLOAD (R80, R125). -/
def rom (c : Config) (i : Instr) : RomRow :=
  match opcode c i with
  | some op => ⟨c.devAddr, opcodeBytes op, readLen c i⟩
  | none => ⟨c.gcAddr, c.gcPayload, 0⟩

/-- The 29 wire opcodes the ROM can emit, in the table's order (R9(a), R51). -/
def emittedOpcodes (c : Config) : List Word := Instr.all.filterMap (opcode c)

end Sys2Proof.Machine
end

