-- ==== Sys2Proof/WellFormed.lean ====
section
/-! DEFINITION. The well-formedness checks the spec names: of the fields of a request word (R71 to R76) and of a
configuration (R9). Each check is a Bool of its own name. -/

namespace Sys2Proof

/-- The five fields of a request word (R70). -/
structure RequestFields where
  op   : BitVec 4
  rep  : BitVec 2
  rate : BitVec 3
  str  : BitVec 1
  rsv  : BitVec 6
  deriving DecidableEq, Repr

namespace RequestFields

/-- RSV is zero (R75). -/
def rsvZero (f : RequestFields) : Bool := f.rsv == 0#6

/-- OP is not one of the reserved values 0x0 and 0xC to 0xF (R71). -/
def opLegal (f : RequestFields) : Bool := f.op != 0x0#4 && f.op.ult 0xC#4

/-- REP is not the reserved value 0b11 (R72). -/
def repLegal (f : RequestFields) : Bool := f.rep != 0b11#2

/-- RATE is not one of the reserved values 0b101 to 0b111 (R73). -/
def rateLegal (f : RequestFields) : Bool := f.rate.ule 0b100#3

/-- A field the operation does not use is zero: SS_TEMP (OP 1) uses REP and STR, PER_START (OP 2) uses RATE and REP,
every other operation none (R71, R76). -/
def unusedZero (f : RequestFields) : Bool :=
  if f.op = 0x1#4 then f.rate == 0#3
  else if f.op = 0x2#4 then f.str == 0#1
  else f.rep == 0#2 && f.rate == 0#3 && f.str == 0#1

/-- The fields of a legal request word: every check of R71 to R76. -/
def wf (f : RequestFields) : Bool :=
  f.rsvZero && f.opLegal && f.repLegal && f.rateLegal && f.unusedZero

end RequestFields

/-- No word of the list occurs twice in it. -/
def allDistinct : List Word → Bool
  | [] => true
  | w :: ws => ws.all (fun v => v != w) && allDistinct ws

namespace Config

/-- R9(a): the 29 wire opcodes the command ROM can emit are pairwise distinct. -/
def opcodesDistinct (c : Config) : Bool := allDistinct (Machine.emittedOpcodes c)

/-- R9(b): DEV_ADDR differs from GC_ADDR. -/
def addrsDiffer (c : Config) : Bool := c.devAddr != c.gcAddr

/-- R9(c): SS_LEN and PER_LEN are 3 or 6. -/
def lengthsLegal (c : Config) : Bool :=
  (c.ssLen == 3 || c.ssLen == 6) && (c.perLen == 3 || c.perLen == 6)

/-- The configuration passes every check of R9. One that fails is refused by the model (R9, Machine/Cycle.lean). -/
def wf (c : Config) : Bool := c.opcodesDistinct && c.addrsDiffer && c.lengthsLegal

end Config

end Sys2Proof
end

