-- ==== Sys2Proof/Decode.lean ====
section
/-! DEFINITION. The request decoder, in the two stages of R77 (the operation, then the arguments), total on every
16-bit word and rejecting by name; and after it the encoder (R86), written from the tables of R71 to R74 and R83. -/

namespace Sys2Proof

/-- Why a request word is illegal (R84). Every one of them becomes a completion code (R230), never a stop. -/
inductive DecodeError where
  /-- an RSV bit is set (R75) -/
  | reservedBitSet
  /-- OP is 0x0 or 0xC to 0xF (R71) -/
  | reservedOp
  /-- REP is 0b11 (R72) -/
  | reservedRep
  /-- RATE is 0b101 to 0b111 (R73) -/
  | reservedRate
  /-- a field the operation does not use is not zero (R76) -/
  | unusedFieldSet
  deriving DecidableEq, Repr

/-- The fields of a request word, bit positions as R70 gives them. -/
def RequestFields.ofWord (w : Word) : RequestFields where
  op   := w.extractLsb' 0 4
  rep  := w.extractLsb' 4 2
  rate := w.extractLsb' 6 3
  str  := w.extractLsb' 9 1
  rsv  := w.extractLsb' 10 6

/-- The operation of an OP value (R71). -/
def Op.ofField (op : BitVec 4) : Except DecodeError Op :=
  match op.toNat with
  | 0x1 => .ok .ssTemp
  | 0x2 => .ok .perStart
  | 0x3 => .ok .perRead
  | 0x4 => .ok .perEnd
  | 0x5 => .ok .heaterOn
  | 0x6 => .ok .heaterOff
  | 0x7 => .ok .readId
  | 0x8 => .ok .softReset
  | 0x9 => .ok .busReset
  | 0xA => .ok .readStatus
  | 0xB => .ok .clearStatus
  | _ => .error .reservedOp

/-- The repeatability of a REP value (R72). -/
def Rep.ofField (rep : BitVec 2) : Except DecodeError Rep :=
  match rep.toNat with
  | 0 => .ok .low
  | 1 => .ok .medium
  | 2 => .ok .high
  | _ => .error .reservedRep

/-- The sample rate of a RATE value (R73). -/
def Rate.ofField (rate : BitVec 3) : Except DecodeError Rate :=
  match rate.toNat with
  | 0 => .ok .mps0_5
  | 1 => .ok .mps1
  | 2 => .ok .mps2
  | 3 => .ok .mps4
  | 4 => .ok .mps10
  | _ => .error .reservedRate

/-- The clock-stretching mode of an STR value (R74). -/
def Stretch.ofField (str : BitVec 1) : Stretch :=
  if str = 1#1 then .enabled else .disabled

/-- The operation of a request (the rows of R83 grouped by R71). -/
def Instr.op : Instr → Op
  | .ssTempLowNostretch => .ssTemp
  | .ssTempMediumNostretch => .ssTemp
  | .ssTempHighNostretch => .ssTemp
  | .ssTempLowStretch => .ssTemp
  | .ssTempMediumStretch => .ssTemp
  | .ssTempHighStretch => .ssTemp
  | .perStartMps0_5Low => .perStart
  | .perStartMps0_5Medium => .perStart
  | .perStartMps0_5High => .perStart
  | .perStartMps1Low => .perStart
  | .perStartMps1Medium => .perStart
  | .perStartMps1High => .perStart
  | .perStartMps2Low => .perStart
  | .perStartMps2Medium => .perStart
  | .perStartMps2High => .perStart
  | .perStartMps4Low => .perStart
  | .perStartMps4Medium => .perStart
  | .perStartMps4High => .perStart
  | .perStartMps10Low => .perStart
  | .perStartMps10Medium => .perStart
  | .perStartMps10High => .perStart
  | .perRead => .perRead
  | .perEnd => .perEnd
  | .heaterOn => .heaterOn
  | .heaterOff => .heaterOff
  | .readId => .readId
  | .softReset => .softReset
  | .busReset => .busReset
  | .readStatus => .readStatus
  | .clearStatus => .clearStatus

/-- The single-shot request of two operands (R163). -/
def Instr.ofSsTemp : Rep → Stretch → Instr
  | .low, .disabled => .ssTempLowNostretch
  | .medium, .disabled => .ssTempMediumNostretch
  | .high, .disabled => .ssTempHighNostretch
  | .low, .enabled => .ssTempLowStretch
  | .medium, .enabled => .ssTempMediumStretch
  | .high, .enabled => .ssTempHighStretch

/-- The periodic-start request of two operands (R164). -/
def Instr.ofPerStart : Rate → Rep → Instr
  | .mps0_5, .low => .perStartMps0_5Low
  | .mps0_5, .medium => .perStartMps0_5Medium
  | .mps0_5, .high => .perStartMps0_5High
  | .mps1, .low => .perStartMps1Low
  | .mps1, .medium => .perStartMps1Medium
  | .mps1, .high => .perStartMps1High
  | .mps2, .low => .perStartMps2Low
  | .mps2, .medium => .perStartMps2Medium
  | .mps2, .high => .perStartMps2High
  | .mps4, .low => .perStartMps4Low
  | .mps4, .medium => .perStartMps4Medium
  | .mps4, .high => .perStartMps4High
  | .mps10, .low => .perStartMps10Low
  | .mps10, .medium => .perStartMps10Medium
  | .mps10, .high => .perStartMps10High

/-- The request of an operation without operands: REP, RATE and STR must all be zero (R76). -/
def noArgs (i : Instr) (f : RequestFields) : Except DecodeError Instr :=
  if f.rep = 0#2 ∧ f.rate = 0#3 ∧ f.str = 0#1 then .ok i else .error .unusedFieldSet

/-- decode_op (R77): the first stage. -/
def decodeOp (w : Word) : Except DecodeError Op :=
  if (RequestFields.ofWord w).rsv = 0#6 then Op.ofField (RequestFields.ofWord w).op
  else .error .reservedBitSet

/-- The arguments of SS_TEMP (R77): REP legal, RATE zero. -/
def decodeSsTemp (f : RequestFields) : Except DecodeError Instr :=
  match Rep.ofField f.rep with
  | .error e => .error e
  | .ok rep =>
    if f.rate = 0#3 then .ok (Instr.ofSsTemp rep (Stretch.ofField f.str)) else .error .unusedFieldSet

/-- The arguments of PER_START (R77): REP legal, RATE legal, STR zero. -/
def decodePerStart (f : RequestFields) : Except DecodeError Instr :=
  match Rep.ofField f.rep, Rate.ofField f.rate with
  | .error e, _ => .error e
  | .ok _, .error e => .error e
  | .ok rep, .ok rate =>
    if f.str = 0#1 then .ok (Instr.ofPerStart rate rep) else .error .unusedFieldSet

/-- The second stage on the fields of the word. -/
def decodeFields (op : Op) (f : RequestFields) : Except DecodeError Instr :=
  match op with
  | .ssTemp => decodeSsTemp f
  | .perStart => decodePerStart f
  | .perRead => noArgs .perRead f
  | .perEnd => noArgs .perEnd f
  | .heaterOn => noArgs .heaterOn f
  | .heaterOff => noArgs .heaterOff f
  | .readId => noArgs .readId f
  | .softReset => noArgs .softReset f
  | .busReset => noArgs .busReset f
  | .readStatus => noArgs .readStatus f
  | .clearStatus => noArgs .clearStatus f

/-- decode_args (R77): the second stage, which R160 runs only after the state check. -/
def decodeArgs (op : Op) (w : Word) : Except DecodeError Instr :=
  decodeFields op (RequestFields.ofWord w)

/-- decode (R77): both stages. -/
def decode (w : Word) : Except DecodeError Instr :=
  match decodeOp w with
  | .error e => .error e
  | .ok op => decodeArgs op w

/-- The OP value of an operation (R71). -/
def Op.field : Op → BitVec 4
  | .ssTemp => 0x1#4
  | .perStart => 0x2#4
  | .perRead => 0x3#4
  | .perEnd => 0x4#4
  | .heaterOn => 0x5#4
  | .heaterOff => 0x6#4
  | .readId => 0x7#4
  | .softReset => 0x8#4
  | .busReset => 0x9#4
  | .readStatus => 0xA#4
  | .clearStatus => 0xB#4

/-- The REP value of a repeatability (R72). -/
def Rep.field : Rep → BitVec 2
  | .low => 0b00#2
  | .medium => 0b01#2
  | .high => 0b10#2

/-- The RATE value of a sample rate (R73). -/
def Rate.field : Rate → BitVec 3
  | .mps0_5 => 0b000#3
  | .mps1 => 0b001#3
  | .mps2 => 0b010#3
  | .mps4 => 0b011#3
  | .mps10 => 0b100#3

/-- The STR value of a clock-stretching mode (R74). -/
def Stretch.field : Stretch → BitVec 1
  | .disabled => 0#1
  | .enabled => 1#1

/-- OP | REP << 4 | RATE << 6 | STR << 9 (R86). A zero field is written with the value whose code is zero. -/
def assemble (op : Op) (rep : Rep) (rate : Rate) (str : Stretch) : Word :=
  op.field.setWidth 16 ||| rep.field.setWidth 16 <<< 4 ||| rate.field.setWidth 16 <<< 6 |||
    str.field.setWidth 16 <<< 9

/-- The request word of a request (R83, R86). -/
def encode : Instr → Word
  | .ssTempLowNostretch => assemble .ssTemp .low .mps0_5 .disabled
  | .ssTempMediumNostretch => assemble .ssTemp .medium .mps0_5 .disabled
  | .ssTempHighNostretch => assemble .ssTemp .high .mps0_5 .disabled
  | .ssTempLowStretch => assemble .ssTemp .low .mps0_5 .enabled
  | .ssTempMediumStretch => assemble .ssTemp .medium .mps0_5 .enabled
  | .ssTempHighStretch => assemble .ssTemp .high .mps0_5 .enabled
  | .perStartMps0_5Low => assemble .perStart .low .mps0_5 .disabled
  | .perStartMps0_5Medium => assemble .perStart .medium .mps0_5 .disabled
  | .perStartMps0_5High => assemble .perStart .high .mps0_5 .disabled
  | .perStartMps1Low => assemble .perStart .low .mps1 .disabled
  | .perStartMps1Medium => assemble .perStart .medium .mps1 .disabled
  | .perStartMps1High => assemble .perStart .high .mps1 .disabled
  | .perStartMps2Low => assemble .perStart .low .mps2 .disabled
  | .perStartMps2Medium => assemble .perStart .medium .mps2 .disabled
  | .perStartMps2High => assemble .perStart .high .mps2 .disabled
  | .perStartMps4Low => assemble .perStart .low .mps4 .disabled
  | .perStartMps4Medium => assemble .perStart .medium .mps4 .disabled
  | .perStartMps4High => assemble .perStart .high .mps4 .disabled
  | .perStartMps10Low => assemble .perStart .low .mps10 .disabled
  | .perStartMps10Medium => assemble .perStart .medium .mps10 .disabled
  | .perStartMps10High => assemble .perStart .high .mps10 .disabled
  | .perRead => assemble .perRead .low .mps0_5 .disabled
  | .perEnd => assemble .perEnd .low .mps0_5 .disabled
  | .heaterOn => assemble .heaterOn .low .mps0_5 .disabled
  | .heaterOff => assemble .heaterOff .low .mps0_5 .disabled
  | .readId => assemble .readId .low .mps0_5 .disabled
  | .softReset => assemble .softReset .low .mps0_5 .disabled
  | .busReset => assemble .busReset .low .mps0_5 .disabled
  | .readStatus => assemble .readStatus .low .mps0_5 .disabled
  | .clearStatus => assemble .clearStatus .low .mps0_5 .disabled

/-- The request the decoder reads from a row of the opcode table: one 16-bit word, bit 0 its least significant bit.
Bits above nbits are zero; a row wider than a request word is no request. -/
def decodeTableWord (nbits w : Nat) : Option Instr :=
  if nbits ≤ 16 then
    match decode (BitVec.ofNat 16 (w % 2 ^ nbits)) with
    | .ok i => some i
    | .error _ => none
  else none

end Sys2Proof
end

