-- ==== Sys2Proof/Machine/Defaults.lean ====
section
/-! DEFINITION. The configuration after reset: the spec's default for every parameter that has one (R7, R122 to R125),
and for DEV_ADDR, which is OPEN, the placeholder of 95_test_vectors.md (log entry 1). Statements about the machine are
over every configuration, never over this one, unless they say so. -/

namespace Sys2Proof

/-- The default single-shot opcodes (R122; from general knowledge, log entry 2). -/
def CromSs.default : CromSs where
  highOff   := 0x2400#16
  mediumOn  := 0x2C0D#16
  mediumOff := 0x240B#16
  lowOn     := 0x2C10#16
  lowOff    := 0x2416#16

/-- The default periodic-start opcodes, High, Medium, Low (R123; from general knowledge, log entry 2). -/
def CromPer.default : CromPer where
  mps0_5 := ⟨0x2032#16, 0x2024#16, 0x202F#16⟩
  mps1   := ⟨0x2130#16, 0x2126#16, 0x212D#16⟩
  mps2   := ⟨0x2236#16, 0x2220#16, 0x222B#16⟩
  mps4   := ⟨0x2334#16, 0x2322#16, 0x2329#16⟩
  mps10  := ⟨0x2737#16, 0x2721#16, 0x272A#16⟩

/-- The default configuration (R7). -/
def Config.default : Config where
  devAddr     := 0x48#7
  ssLen       := 3
  perLen      := 6
  verifyWord1 := false
  cromSs      := CromSs.default
  cromPer     := CromPer.default
  gcAddr      := 0x00#7
  gcPayload   := [0x06#8]
  heaterByte  := 0
  heaterBit   := 2
  tempRound   := .identity

end Sys2Proof
end

