-- ==== Sys2Proof/Machine/State.lean ====
section
/-! DEFINITION. The block's state as plain data (spec 10_state.md), the reasons a step can stop, and the state after
reset (R250). An Option is the spec's own ⊥ ("no value", R13) or none (TXN_L, R25), never a stand-in for a missing
reset value. -/

namespace Sys2Proof.Machine

/-- SESSION (R22): whether the block believes the sensor is in periodic-measurement mode. -/
inductive Session where
  | idle
  | periodicMeasuring
  deriving DecidableEq, Repr

/-- PHASE (R23): no request in progress, or one transaction waiting for its answer. -/
inductive Phase where
  | ready
  | waitBus
  deriving DecidableEq, Repr

/-- The completion codes (R220). -/
inductive Code where
  | ok
  | busError
  | checksumError
  /-- reserved, never raised (R187) -/
  | measurementError
  | protocolStateError
  | invalidArgument
  deriving DecidableEq, Repr

/-- A transport transaction (R141): a write-read with its expected read length, or a write. -/
inductive Txn where
  | writeRead (addr : Addr) (w : List Byte) (n : Nat)
  | write (addr : Addr) (w : List Byte)
  deriving DecidableEq, Repr

/-- The transport's answer (R141): acknowledged with the read data (empty for a write), or not acknowledged. -/
inductive Answer where
  | ack (r : List Byte)
  | nak
  deriving DecidableEq, Repr

/-- An event of the bus log (R151). -/
inductive BusEvent where
  | issue (t : Txn)
  | answer (a : Answer)
  deriving DecidableEq, Repr

/-- What an agent outside the block does to it (log entry 4): the host offers a request word (R70, R236), the
transport answers (R141, R146), or the block is reset (R250). -/
inductive Input where
  | request (w : Word)
  | answer (a : Answer)
  | reset
  deriving DecidableEq, Repr

/-- The result registers (R29). none is ⊥. -/
structure Results where
  /-- RES_RAW: the first data word. -/
  raw    : Option Word
  /-- RES_TEMP: the temperature, an exact rational through TEMP_ROUND (R182). -/
  temp   : Option Rat
  /-- RES_ST0: status byte 0. -/
  st0    : Option Byte
  /-- RES_ST1: status byte 1. -/
  st1    : Option Byte
  /-- RES_HEATER: the heater-active bit. -/
  heater : Option Bool
  /-- RES_ID: the 8 identification bytes, byte i at index i. -/
  id     : Option (Vector Byte 8)
  deriving DecidableEq, Repr

/-- Every result register at ⊥: the reset value (R29), and what a completion leaves that wrote none (R222). -/
def Results.bottom : Results := ⟨none, none, none, none, none, none⟩

/-- What the host can read (R237): the session, the busy indication, the completion registers and the result
registers. REQ_L, TXN_L and FRAME are not host-visible (R24 to R26). -/
inductive HostReg where
  | session
  | busy
  | status
  | done
  | resRaw
  | resTemp
  | resSt0
  | resSt1
  | resHeater
  | resId
  deriving DecidableEq, Repr

/-- The value a host read returns. -/
inductive HostValue where
  | bit (b : Bool)
  | code (c : BitVec 4)
  | byte (b : Byte)
  | word (w : Word)
  | temp (t : Rat)
  | bytes (v : Vector Byte 8)
  deriving DecidableEq, Repr

/-- Why the model stops with a fault. All are safe: the spec gives no value there (R13, R101), and none can be raised
by a step from a coherent state (Safety.lean). -/
inductive Fault where
  /-- the host reads a register that holds ⊥ (R13, R223); raised by hostRead, never by a step; safe -/
  | noValue (r : HostReg)
  /-- REQ_L holds ⊥ while PHASE = WAIT_BUS (R13, R24); raised by the answer step; safe -/
  | reqLNoValue
  /-- REQ_L holds a word that decodes to no request (R160 never writes one); raised by the answer step; safe -/
  | reqLIllegal
  /-- TXN_L is none while PHASE = WAIT_BUS (R25 excludes it); raised by the answer step; safe -/
  | noTransaction
  /-- COMPUTE with indices out of range (R101); raised by compute; safe -/
  | checksumRange (start stop len : Nat)
  /-- a frame byte beyond the frame's length (R60 excludes it); raised by the decoders and the verifier; safe -/
  | frameIndex (i : Nat)
  deriving DecidableEq, Repr

/-- Why the model has no meaning to give. -/
inductive Refusal where
  /-- an instruction without a meaning yet; raised by exec's arms only; safe -/
  | notModelled (mnemonic : String)
  /-- the configuration fails a check of R9, which says that the model refuses it; raised by the step; safe -/
  | configIllFormed
  deriving DecidableEq, Repr

/-- The state of the block (spec 10_state.md), its bus log (R151) and the pending inputs of the agents around it. -/
structure State where
  /-- the configuration (R31): constant for the life of the block -/
  cfg      : Config
  /-- SESSION (R22) -/
  session  : Session
  /-- PHASE (R23) -/
  phase    : Phase
  /-- REQ_L (R24); none is ⊥ -/
  reqL     : Option Word
  /-- TXN_L (R25) -/
  txnL     : Option Txn
  /-- FRAME (R26); none is ⊥ -/
  frame    : Option (List Byte)
  /-- STATUS (R27), 4 bits; none is ⊥ -/
  status   : Option (BitVec 4)
  /-- DONE (R28): asserted in the state that a completing step leaves, and in no other -/
  done     : Bool
  /-- the result registers (R29) -/
  res      : Results
  /-- bus ownership (R34) -/
  busOwned : Bool
  /-- the bus log (R151): the model's observation of the bus, no block state -/
  busLog   : List BusEvent
  /-- the MODEL's own field (log entry 4): what the agents outside the block do, in order of arrival -/
  inputs   : List Input
  deriving DecidableEq, Repr

/-- The state after reset under a configuration (R250, 10_state.md section 7), with an empty bus log and no input. -/
def State.resetWith (c : Config) : State where
  cfg      := c
  session  := .idle
  phase    := .ready
  reqL     := none
  txnL     := none
  frame    := none
  status   := none
  done     := false
  res      := Results.bottom
  busOwned := false
  busLog   := []
  inputs   := []

/-- The machine right after reset, in the default configuration. -/
def State.reset : State := State.resetWith Config.default

/-- A step's outcome on this machine. -/
abbrev Result := Host.Outcome State Fault Refusal

end Sys2Proof.Machine
end

