-- ==== Sys2Proof/Machine/Flags.lean ====
section
/-! DEFINITION. The block's only flag state is STATUS (R27): the completion codes as bits (R220), the one-bit
encodings the host reads (R22, R23), and the state check of R160. The block has no condition codes, carry or overflow. -/

namespace Sys2Proof.Machine

/-- The 4-bit encoding of a completion code (R27, R220). -/
def Code.bits : Code → BitVec 4
  | .ok => 0#4
  | .busError => 1#4
  | .checksumError => 2#4
  | .measurementError => 3#4
  | .protocolStateError => 4#4
  | .invalidArgument => 5#4

/-- SESSION as the bit the host reads: Idle is 0, PeriodicMeasuring is 1 (R22). -/
def Session.bit : Session → Bool
  | .idle => false
  | .periodicMeasuring => true

/-- busy = (PHASE = WAIT_BUS) (R23). -/
def Phase.busy : Phase → Bool
  | .ready => false
  | .waitBus => true

/-- state_ok(op, SESSION) (R160). -/
def stateOk (op : Op) (s : Session) : Bool :=
  match op with
  | .perStart => s == .idle
  | .perRead => s == .periodicMeasuring
  | .perEnd => s == .periodicMeasuring
  | .ssTemp => true
  | .heaterOn => true
  | .heaterOff => true
  | .readId => true
  | .softReset => true
  | .busReset => true
  | .readStatus => true
  | .clearStatus => true

end Sys2Proof.Machine
end

