-- ==== Sys2Proof/Machine/Crc.lean ====
section
/-! DEFINITION. The checksum validator, CRC8U (spec 40_checksum.md): the CRC-8 with polynomial 0x31, initial value
0xFF, MSB first, no reflection, no final XOR (R3, R100), and its two functions COMPUTE and VERIFY. -/

namespace Sys2Proof.Machine

/-- One of the eight shift steps of R100. -/
def crcShift (c : Byte) : Byte :=
  if c.msb then (c <<< 1) ^^^ 0x31#8 else c <<< 1

/-- One byte of R100: XOR it in, then eight shift steps. -/
def crcByte (c b : Byte) : Byte :=
  crcShift (crcShift (crcShift (crcShift (crcShift (crcShift (crcShift (crcShift (c ^^^ b))))))))

/-- The register after a byte list, from a given register value (R100). -/
def crcFrom (c : Byte) : List Byte → Byte
  | [] => c
  | b :: d => crcFrom (crcByte c b) d

/-- crc8(d) (R100). Every span starts from the initial value 0xFF (R104). -/
def crc8 (d : List Byte) : Byte := crcFrom 0xFF#8 d

/-- COMPUTE (R101). An index out of range has no value. -/
def compute (bytes : List Byte) (start stop : Nat) : Except Fault Byte :=
  if start ≤ stop ∧ stop ≤ bytes.length then .ok (crc8 ((bytes.take stop).drop start))
  else .error (.checksumRange start stop bytes.length)

/-- VERIFY (R102): all eight bits of the checksum compared with the expected byte. -/
def verify (frame : List Byte) (start stop : Nat) (expected : Byte) : Except Fault Bool :=
  match compute frame start stop with
  | .error e => .error e
  | .ok c => .ok (c == expected)

/-- A checked span of a frame: data bytes start to stop (exclusive), checksum byte at index check (R59). -/
structure Span where
  start : Nat
  stop  : Nat
  check : Nat
  deriving DecidableEq, Repr

/-- VERIFY over the spans in order, false at the first that fails (R161). -/
def checkSpans : List Span → List Byte → Except Fault Bool
  | [], _ => .ok true
  | sp :: rest, f =>
    match f[sp.check]? with
    | none => .error (.frameIndex sp.check)
    | some e =>
      match verify f sp.start sp.stop e with
      | .error x => .error x
      | .ok false => .ok false
      | .ok true => checkSpans rest f

end Sys2Proof.Machine
end

