-- ==== Sys2Proof/Machine/Operands.lean ====
section
/-! DEFINITION. The operands a request reads from its response frame: the frame decoder, DEC (R180 to R187), and the
checked spans of each frame kind (R59). No request has a register, an address or an immediate as operand (R78). -/

namespace Sys2Proof.Machine

/-- temp_of_raw(raw) = -45 + 175 * raw / 65535, exactly (R181). -/
def tempOfRaw (raw : Word) : Rat := -45 + 175 * (raw.toNat : Rat) / 65535

/-- TEMP_ROUND (R182): the identity, or the uninterpreted encoding the configuration names. -/
def roundTemp : TempRound → Rat → Rat
  | .identity, t => t
  | .format n, t => Config.tempFormat n t

/-- The spans of a temperature frame of length n: word 0, and word 1 only of a 6-byte frame under VERIFY_WORD1
(R59, R163, R165). -/
def tempSpans (c : Config) (n : Nat) : List Span :=
  ⟨0, 2, 2⟩ :: (if n = 6 ∧ c.verifyWord1 = true then [⟨3, 5, 5⟩] else [])

/-- decode_results of SS_TEMP and PER_READ: RES_RAW and RES_TEMP from word 0 (R163, R165, R180 to R182). The second
word of a 6-byte frame is discarded (R186). -/
def decodeTemp (c : Config) : List Byte → Except Fault Results
  | b0 :: b1 :: _ =>
    .ok { Results.bottom with
      raw  := some (be16 b0 b1)
      temp := some (roundTemp c.tempRound (tempOfRaw (be16 b0 b1))) }
  | f => .error (.frameIndex f.length)

/-- The status byte that holds the heater bit (R183). -/
def heaterByteOf (c : Config) (b0 b1 : Byte) : Byte :=
  if c.heaterByte = 0 then b0 else b1

/-- decode_results of READ_STATUS: the two status bytes, the word, and the heater bit (R172, R183, R184). -/
def decodeStatus (c : Config) : List Byte → Except Fault Results
  | b0 :: b1 :: _ =>
    .ok { Results.bottom with
      raw    := some (be16 b0 b1)
      st0    := some b0
      st1    := some b1
      heater := some ((heaterByteOf c b0 b1).getLsbD c.heaterBit.val) }
  | f => .error (.frameIndex f.length)

/-- decode_results of READ_ID: byte i of RES_ID is FRAME[i], uninterpreted (R169, R185). -/
def decodeId (_ : Config) : List Byte → Except Fault Results
  | b0 :: b1 :: b2 :: b3 :: b4 :: b5 :: b6 :: b7 :: _ =>
    .ok { Results.bottom with id := some #v[b0, b1, b2, b3, b4, b5, b6, b7] }
  | f => .error (.frameIndex f.length)

end Sys2Proof.Machine
end

