-- ==== Sys2Proof/Machine/Ops.lean ====
section
/-! DEFINITION. The shared operations of every request: completion (R222, the block's one way to end a request and to
report an error), the sequencer's issue and answer steps (R144 to R146), and the pipeline of R160 to R162. The block
has no memory and no register file (R20, 20_memory.md), so there are no loads, stores or register reads here. -/

namespace Sys2Proof.Machine

/-- complete(code) (R222): STATUS takes the code; every result register is ⊥ unless the code is OK and this request
wrote it; REQ_L and TXN_L are emptied; PHASE is READY; the bus is released (R34); DONE is asserted. written holds what
the request's decode_results wrote. This is the block's exception entry and normal completion alike: nothing else is
saved, and control goes nowhere but to the next request. -/
def complete (code : Code) (written : Results) (s : State) : State :=
  { s with
    status   := some code.bits
    res      := if code = .ok then written else Results.bottom
    reqL     := none
    txnL     := none
    phase    := .ready
    busOwned := false
    done     := true }

/-- A completion that wrote no result: every error code, and OK of a write-only request. -/
def completeBare (code : Code) (s : State) : State := complete code Results.bottom s

/-- A step in which the block does nothing: DONE is an event, so it does not stay asserted (R28). -/
def idle (s : State) : State := { s with done := false }

/-- The transaction of a ROM row (R124): a write-only command issues Write, any other WriteRead. -/
def txnOfRow (r : RomRow) : Txn :=
  if r.rlen = 0 then .write r.addr r.wbytes else .writeRead r.addr r.wbytes r.rlen

/-- The one transaction a request issues (R149, R160). -/
def txnOf (c : Config) (i : Instr) : Txn := txnOfRow (rom c i)

/-- Issue (R144, R160): REQ_L and TXN_L are written, the bus is owned, the log records the transaction. -/
def issue (i : Instr) (s : State) : State :=
  { s with
    reqL     := some (encode i)
    txnL     := some (txnOf s.cfg i)
    phase    := .waitBus
    busOwned := true
    busLog   := s.busLog ++ [.issue (txnOf s.cfg i)]
    done     := false }

/-- Accept a request (R160, once its arguments are decoded): the state check, then the issue. -/
def accept (i : Instr) (s : State) : State :=
  if stateOk i.op s.session then issue i s else completeBare .protocolStateError s

/-- Answer validation (R142, R143, R145): an Ack of the wrong length, or with data for a write, is a Nak. -/
def validate : Txn → Answer → Answer
  | _, .nak => .nak
  | .writeRead _ _ n, .ack r => if r.length = n then .ack r else .nak
  | .write _ _, .ack r => if r = [] then .ack [] else .nak

/-- The next input the block can take, and what is left. While READY it is the first to arrive. While WAIT_BUS the
port does not accept a request: the host holds it, in its place, and the next arrival is looked at (R236, I26). -/
def nextInput : Phase → List Input → Option (Input × List Input)
  | _, [] => none
  | .ready, x :: rest => some (x, rest)
  | .waitBus, .request w :: rest =>
    match nextInput .waitBus rest with
    | none => none
    | some (x, rest') => some (x, .request w :: rest')
  | .waitBus, .answer a :: rest => some (.answer a, rest)
  | .waitBus, .reset :: rest => some (.reset, rest)

/-- The transport's answer, if the next input is one, and the inputs left after it. -/
def takeAnswer (s : State) : Option (Answer × List Input) :=
  match nextInput s.phase s.inputs with
  | some (.answer a, rest) => some (a, rest)
  | some (.request _, _) => none
  | some (.reset, _) => none
  | none => none

/-- Answer (R146): the log records it, TXN_L is emptied and the bus released. -/
def takeAnswered (a : Answer) (rest : List Input) (s : State) : State :=
  { s with
    busLog   := s.busLog ++ [.answer a]
    txnL     := none
    busOwned := false
    inputs   := rest }

/-- The answer step of a request in progress (R146): the answer is validated against TXN_L and the request finished
by its own rule. Without an answer the block waits, for ever if need be (R147). -/
def answerStep (finish : Answer → State → Result) (s : State) : Result :=
  match takeAnswer s with
  | none => .next (idle s)
  | some (a, rest) =>
    match s.txnL with
    | none => .fault .noTransaction
    | some t => finish (validate t a) (takeAnswered a rest s)

/-- A request's whole life (R160, R146): in READY its acceptance, in WAIT_BUS its answer step. -/
def request (i : Instr) (finish : Answer → State → Result) (s : State) : Result :=
  match s.phase with
  | .ready => .next (accept i s)
  | .waitBus => answerStep finish s

/-- finish_read (R161): FRAME takes the bytes; every span is verified before any result is decoded. -/
def finishRead (spans : Config → List Span) (dec : Config → List Byte → Except Fault Results) (a : Answer)
    (s : State) : Result :=
  match a with
  | .nak => .next (completeBare .busError s)
  | .ack r =>
    match checkSpans (spans s.cfg) r with
    | .error e => .fault e
    | .ok false => .next (completeBare .checksumError { s with frame := some r })
    | .ok true =>
      match dec s.cfg r with
      | .error e => .fault e
      | .ok written => .next (complete .ok written { s with frame := some r })

/-- finish_write (R162): the request's SESSION transition is committed only on an acknowledged write. -/
def finishWrite (transition : Session → Session) (a : Answer) (s : State) : Result :=
  match a with
  | .nak => .next (completeBare .busError s)
  | .ack _ => .next (completeBare .ok { s with session := transition s.session })

/-- A request with a response frame (R161). -/
def readRequest (i : Instr) (spans : Config → List Span) (dec : Config → List Byte → Except Fault Results)
    (s : State) : Result :=
  request i (finishRead spans dec) s

/-- A write-only request (R162). -/
def writeRequest (i : Instr) (transition : Session → Session) (s : State) : Result :=
  request i (finishWrite transition) s

/-- Block reset (R250, R251): every register to its reset value whatever PHASE holds, the request in progress
abandoned without a code, the bus released. The configuration and the command ROM stay; the bus log is bookkeeping
and the inputs are the outside world's, so both stay too. No transaction is issued. -/
def blockReset (s : State) : State :=
  { State.resetWith s.cfg with busLog := s.busLog, inputs := s.inputs }

end Sys2Proof.Machine
end

