-- ==== Sys2Proof/Machine/Cycle.lean ====
section
/-! DEFINITION. What one step does around a request's meaning: the configuration check (R9), which outside agent moves
next, the two-stage acceptance of a request word (R160), the answer step's return to the request in REQ_L (R146), the
late answer (R251) and block reset (R250). run stands for exec. -/

namespace Sys2Proof.Machine

/-- An illegal request word (R84, R160, R230): the operation is decoded first, then the session is checked, then the
arguments; the first that fails names the code. No transaction is issued. -/
def rejectWord (w : Word) (s : State) : State :=
  match decodeOp w with
  | .error _ => completeBare .invalidArgument s
  | .ok op =>
    if stateOk op s.session then completeBare .invalidArgument s else completeBare .protocolStateError s

/-- Accept a request word (R160). The state check of a legal word is in its meaning (Ops.accept). -/
def acceptWord (run : Instr → State → Result) (w : Word) (s : State) : Result :=
  match decode w with
  | .ok i => run i s
  | .error _ => .next (rejectWord w s)

/-- The answer step goes back to the request in REQ_L (R146). -/
def resume (run : Instr → State → Result) (s : State) : Result :=
  match s.reqL with
  | none => .fault .reqLNoValue
  | some w =>
    match decode w with
    | .ok i => run i s
    | .error _ => .fault .reqLIllegal

/-- One step: the next input an outside agent gives and the block can take. With none, the block has no step of its
own (R146) and idles. An answer while READY is a late one, and is discarded (R251). -/
def cycle (run : Instr → State → Result) (s : State) : Result :=
  if s.cfg.wf = false then .refused .configIllFormed
  else
    match nextInput s.phase s.inputs with
    | none => .next (idle s)
    | some (.reset, rest) => .next (blockReset { s with inputs := rest })
    | some (.request w, rest) => acceptWord run w { s with inputs := rest }
    | some (.answer _, rest) =>
      match s.phase with
      | .ready => .next (idle { s with inputs := rest })
      | .waitBus => resume run s

end Sys2Proof.Machine
end

