-- ==== Sys2Proof/Machine/Control.lean ====
section
/-! DEFINITION. The write-only control requests without a state precondition: HEATER_ON (R167), HEATER_OFF (R168),
SOFT_RESET (R170), BUS_RESET (R171) and CLEAR_STATUS (R173). The block keeps no heater or status state: what the
sensor does with them is the transport's side (R33). -/

namespace Sys2Proof.Machine

/-- HEATER_ON, request word 0x0005 (R167). -/
def execHeaterOn (s : State) : Result :=
  writeRequest .heaterOn (fun ses => ses) s

/-- HEATER_OFF, request word 0x0006 (R168). -/
def execHeaterOff (s : State) : Result :=
  writeRequest .heaterOff (fun ses => ses) s

/-- SOFT_RESET, request word 0x0008 (R170): SESSION becomes Idle, from either state, when the write is
acknowledged. -/
def execSoftReset (s : State) : Result :=
  writeRequest .softReset (fun _ => .idle) s

/-- BUS_RESET, request word 0x0009 (R171): the general call. SESSION is not written. -/
def execBusReset (s : State) : Result :=
  writeRequest .busReset (fun ses => ses) s

/-- CLEAR_STATUS, request word 0x000B (R173). -/
def execClearStatus (s : State) : Result :=
  writeRequest .clearStatus (fun ses => ses) s

end Sys2Proof.Machine
end

