-- ==== Sys2Proof/Machine/Periodic.lean ====
section
/-! DEFINITION. The periodic-measurement requests: the fifteen PER_START (R164), PER_READ (R165) and PER_END (R166).
Each has a state precondition (R160). The rate and the repeatability select an opcode and are not stored (R164). -/

namespace Sys2Proof.Machine

/-- PER_START with the operands of a key (R164): one write; SESSION becomes PeriodicMeasuring when it is
acknowledged. -/
def perStartRequest (i : Instr) (s : State) : Result :=
  writeRequest i (fun _ => .periodicMeasuring) s

/-- PER_START_MPS0_5__LOW, request word 0x0002: 0.5 measurements per second, repeatability Low (R164). -/
def execPerStartMps0_5Low (s : State) : Result := perStartRequest .perStartMps0_5Low s

/-- PER_START_MPS0_5__MEDIUM, request word 0x0012: 0.5 measurements per second, repeatability Medium (R164). -/
def execPerStartMps0_5Medium (s : State) : Result := perStartRequest .perStartMps0_5Medium s

/-- PER_START_MPS0_5__HIGH, request word 0x0022: 0.5 measurements per second, repeatability High (R164). -/
def execPerStartMps0_5High (s : State) : Result := perStartRequest .perStartMps0_5High s

/-- PER_START_MPS1__LOW, request word 0x0042: 1 measurements per second, repeatability Low (R164). -/
def execPerStartMps1Low (s : State) : Result := perStartRequest .perStartMps1Low s

/-- PER_START_MPS1__MEDIUM, request word 0x0052: 1 measurements per second, repeatability Medium (R164). -/
def execPerStartMps1Medium (s : State) : Result := perStartRequest .perStartMps1Medium s

/-- PER_START_MPS1__HIGH, request word 0x0062: 1 measurements per second, repeatability High (R164). -/
def execPerStartMps1High (s : State) : Result := perStartRequest .perStartMps1High s

/-- PER_START_MPS2__LOW, request word 0x0082: 2 measurements per second, repeatability Low (R164). -/
def execPerStartMps2Low (s : State) : Result := perStartRequest .perStartMps2Low s

/-- PER_START_MPS2__MEDIUM, request word 0x0092: 2 measurements per second, repeatability Medium (R164). -/
def execPerStartMps2Medium (s : State) : Result := perStartRequest .perStartMps2Medium s

/-- PER_START_MPS2__HIGH, request word 0x00A2: 2 measurements per second, repeatability High (R164). -/
def execPerStartMps2High (s : State) : Result := perStartRequest .perStartMps2High s

/-- PER_START_MPS4__LOW, request word 0x00C2: 4 measurements per second, repeatability Low (R164). -/
def execPerStartMps4Low (s : State) : Result := perStartRequest .perStartMps4Low s

/-- PER_START_MPS4__MEDIUM, request word 0x00D2: 4 measurements per second, repeatability Medium (R164). -/
def execPerStartMps4Medium (s : State) : Result := perStartRequest .perStartMps4Medium s

/-- PER_START_MPS4__HIGH, request word 0x00E2: 4 measurements per second, repeatability High (R164). -/
def execPerStartMps4High (s : State) : Result := perStartRequest .perStartMps4High s

/-- PER_START_MPS10__LOW, request word 0x0102: 10 measurements per second, repeatability Low (R164). -/
def execPerStartMps10Low (s : State) : Result := perStartRequest .perStartMps10Low s

/-- PER_START_MPS10__MEDIUM, request word 0x0112: 10 measurements per second, repeatability Medium (R164). -/
def execPerStartMps10Medium (s : State) : Result := perStartRequest .perStartMps10Medium s

/-- PER_START_MPS10__HIGH, request word 0x0122: 10 measurements per second, repeatability High (R164). -/
def execPerStartMps10High (s : State) : Result := perStartRequest .perStartMps10High s

/-- PER_READ, request word 0x0003 (R165): one write-read of PER_LEN bytes; SESSION is not written. -/
def execPerRead (s : State) : Result :=
  readRequest .perRead (fun c => tempSpans c c.perLen) decodeTemp s

/-- PER_END, request word 0x0004 (R166): one write; SESSION becomes Idle when it is acknowledged. -/
def execPerEnd (s : State) : Result :=
  writeRequest .perEnd (fun _ => .idle) s

end Sys2Proof.Machine
end

