-- ==== Sys2Proof/Machine/Readout.lean ====
section
/-! DEFINITION. The read requests without a state precondition that return bytes: READ_ID (R169) and READ_STATUS
(R172). -/

namespace Sys2Proof.Machine

/-- READ_ID, request word 0x0007 (R169): 9 bytes, one checksum over the first 8 as a single run. -/
def execReadId (s : State) : Result :=
  readRequest .readId (fun _ => [⟨0, 8, 8⟩]) decodeId s

/-- READ_STATUS, request word 0x000A (R172): 3 bytes, one word with its checksum. -/
def execReadStatus (s : State) : Result :=
  readRequest .readStatus (fun _ => [⟨0, 2, 2⟩]) decodeStatus s

end Sys2Proof.Machine
end

