-- ==== Sys2Proof/Machine/SingleShot.lean ====
section
/-! DEFINITION. The six single-shot temperature requests, SS_TEMP (R163): accepted in either session state, one
write-read of SS_LEN bytes to DEV_ADDR, no change of SESSION. Clock stretching changes the opcode alone (R148). -/

namespace Sys2Proof.Machine

/-- SS_TEMP with the operands of a key (R163): the spans and the decoding of a temperature frame of SS_LEN bytes. -/
def ssTempRequest (i : Instr) (s : State) : Result :=
  readRequest i (fun c => tempSpans c c.ssLen) decodeTemp s

/-- SS_TEMP_LOW__NOSTRETCH, request word 0x0001: repeatability Low, clock stretching disabled (R163). -/
def execSsTempLowNostretch (s : State) : Result := ssTempRequest .ssTempLowNostretch s

/-- SS_TEMP_MEDIUM__NOSTRETCH, request word 0x0011: repeatability Medium, clock stretching disabled (R163). -/
def execSsTempMediumNostretch (s : State) : Result := ssTempRequest .ssTempMediumNostretch s

/-- SS_TEMP_HIGH__NOSTRETCH, request word 0x0021: repeatability High, clock stretching disabled (R163). -/
def execSsTempHighNostretch (s : State) : Result := ssTempRequest .ssTempHighNostretch s

/-- SS_TEMP_LOW__STRETCH, request word 0x0201: repeatability Low, clock stretching enabled (R163). -/
def execSsTempLowStretch (s : State) : Result := ssTempRequest .ssTempLowStretch s

/-- SS_TEMP_MEDIUM__STRETCH, request word 0x0211: repeatability Medium, clock stretching enabled (R163). -/
def execSsTempMediumStretch (s : State) : Result := ssTempRequest .ssTempMediumStretch s

/-- SS_TEMP_HIGH__STRETCH, request word 0x0221: repeatability High, clock stretching enabled (R163). -/
def execSsTempHighStretch (s : State) : Result := ssTempRequest .ssTempHighStretch s

end Sys2Proof.Machine
end

