-- ==== Sys2Proof/Machine/Dispatch.lean ====
section
/-! DEFINITION. One arm for each request, each a direct call of its meaning. -/

namespace Sys2Proof.Machine

/-- The meaning of a request: in READY what its acceptance does (R160), in WAIT_BUS what its answer step does (R146). -/
def exec (i : Instr) (s : State) : Host.Outcome State Fault Refusal :=
  match i with
  | .ssTempLowNostretch => Sys2Proof.Machine.execSsTempLowNostretch s
  | .ssTempMediumNostretch => Sys2Proof.Machine.execSsTempMediumNostretch s
  | .ssTempHighNostretch => Sys2Proof.Machine.execSsTempHighNostretch s
  | .ssTempLowStretch => Sys2Proof.Machine.execSsTempLowStretch s
  | .ssTempMediumStretch => Sys2Proof.Machine.execSsTempMediumStretch s
  | .ssTempHighStretch => Sys2Proof.Machine.execSsTempHighStretch s
  | .perStartMps0_5Low => Sys2Proof.Machine.execPerStartMps0_5Low s
  | .perStartMps0_5Medium => Sys2Proof.Machine.execPerStartMps0_5Medium s
  | .perStartMps0_5High => Sys2Proof.Machine.execPerStartMps0_5High s
  | .perStartMps1Low => Sys2Proof.Machine.execPerStartMps1Low s
  | .perStartMps1Medium => Sys2Proof.Machine.execPerStartMps1Medium s
  | .perStartMps1High => Sys2Proof.Machine.execPerStartMps1High s
  | .perStartMps2Low => Sys2Proof.Machine.execPerStartMps2Low s
  | .perStartMps2Medium => Sys2Proof.Machine.execPerStartMps2Medium s
  | .perStartMps2High => Sys2Proof.Machine.execPerStartMps2High s
  | .perStartMps4Low => Sys2Proof.Machine.execPerStartMps4Low s
  | .perStartMps4Medium => Sys2Proof.Machine.execPerStartMps4Medium s
  | .perStartMps4High => Sys2Proof.Machine.execPerStartMps4High s
  | .perStartMps10Low => Sys2Proof.Machine.execPerStartMps10Low s
  | .perStartMps10Medium => Sys2Proof.Machine.execPerStartMps10Medium s
  | .perStartMps10High => Sys2Proof.Machine.execPerStartMps10High s
  | .perRead => Sys2Proof.Machine.execPerRead s
  | .perEnd => Sys2Proof.Machine.execPerEnd s
  | .heaterOn => Sys2Proof.Machine.execHeaterOn s
  | .heaterOff => Sys2Proof.Machine.execHeaterOff s
  | .readId => Sys2Proof.Machine.execReadId s
  | .softReset => Sys2Proof.Machine.execSoftReset s
  | .busReset => Sys2Proof.Machine.execBusReset s
  | .readStatus => Sys2Proof.Machine.execReadStatus s
  | .clearStatus => Sys2Proof.Machine.execClearStatus s

end Sys2Proof.Machine
end

