-- ==== Sys2Proof/Machine/Step.lean ====
section
/-! DEFINITION. The step of the machine, and how a request word is placed where the next step takes it. -/

namespace Sys2Proof.Machine

/-- One step of the block and its surroundings (Cycle.lean). -/
def step (s : State) : Host.Outcome State Fault Refusal := cycle exec s

/-- The state with a request word offered to a READY block, ahead of every other input, so that the next step accepts
it (R70, R160). A request runs only in READY, so a request in progress is dropped. -/
def State.withFetchWord (s : State) (nbits w : Nat) : State :=
  { s with
    phase    := .ready
    reqL     := none
    txnL     := none
    busOwned := false
    inputs   := .request (BitVec.ofNat 16 (w % 2 ^ nbits)) :: s.inputs }

end Sys2Proof.Machine
end

