-- ==== Sys2Proof/Machine/HostPort.lean ====
section
/-! DEFINITION. What the host reads of the block (R22, R23, R27 to R29, R237). A read changes nothing; reading a
register that holds ⊥ is a fault, never zero (R13, R223). -/

namespace Sys2Proof.Machine

/-- The value of a register that may hold ⊥. -/
def readValue {α : Type} (r : HostReg) (wrap : α → HostValue) : Option α → Except Fault HostValue
  | none => .error (.noValue r)
  | some v => .ok (wrap v)

/-- A host read. -/
def hostRead (r : HostReg) (s : State) : Except Fault HostValue :=
  match r with
  | .session => .ok (.bit s.session.bit)
  | .busy => .ok (.bit s.phase.busy)
  | .status => readValue .status .code s.status
  | .done => .ok (.bit s.done)
  | .resRaw => readValue .resRaw .word s.res.raw
  | .resTemp => readValue .resTemp .temp s.res.temp
  | .resSt0 => readValue .resSt0 .byte s.res.st0
  | .resSt1 => readValue .resSt1 .byte s.res.st1
  | .resHeater => readValue .resHeater .bit s.res.heater
  | .resId => readValue .resId .bytes s.res.id

end Sys2Proof.Machine
end

