-- ==== Sys2Proof/Safety.lean ====
section
/-! DEFINITION. What a safe run is, and the coherence of the block's registers that every step keeps: the relations
between PHASE, REQ_L, TXN_L, bus ownership, FRAME, STATUS, DONE and the result registers that 10_state.md states, and
the shape of the bus log (R151). -/

namespace Sys2Proof.Machine

/-- The outcome is a next state: no fault, no refusal. -/
def Runs (o : Result) : Prop := ∃ t, o = .next t

/-- A request is in progress: REQ_L holds its word, TXN_L its one transaction, and the session admits it
(R24, R25, R149, R160). -/
def InProgress (i : Instr) (s : State) : Prop :=
  s.reqL = some (encode i) ∧ s.txnL = some (txnOf s.cfg i) ∧ stateOk i.op s.session = true

/-- The result registers are the decoding of FRAME, and FRAME passed its checks: as a temperature frame, as a status
frame or as an identification frame (R161, R223). -/
def DecodedFrom (c : Config) (f : List Byte) (r : Results) : Prop :=
  (decodeTemp c f = .ok r ∧ checkSpans (tempSpans c f.length) f = .ok true) ∨
  (decodeStatus c f = .ok r ∧ checkSpans [⟨0, 2, 2⟩] f = .ok true) ∨
  (decodeId c f = .ok r ∧ checkSpans [⟨0, 8, 8⟩] f = .ok true)

/-- The STATUS values a completion can write: not 3 (R187) and not 6 to 15 (R27). -/
def writtenCodes : List (BitVec 4) := [0#4, 1#4, 2#4, 4#4, 5#4]

/-- The block's registers fit together. -/
structure Coherent (s : State) : Prop where
  /-- TXN_L is none exactly when PHASE = READY (R25). -/
  txn     : s.txnL = none ↔ s.phase = .ready
  /-- REQ_L is ⊥ outside a request (R24, R222). -/
  req     : s.phase = .ready → s.reqL = none
  /-- The bus is owned only while PHASE = WAIT_BUS (R34). -/
  owned   : s.busOwned = true ↔ s.phase = .waitBus
  /-- While PHASE = WAIT_BUS a legal request is in progress. -/
  waiting : s.phase = .waitBus → ∃ i, InProgress i s
  /-- A frame has 3, 6 or 9 bytes (R8, R26). -/
  frame   : ∀ f, s.frame = some f → f.length = 3 ∨ f.length = 6 ∨ f.length = 9
  /-- STATUS is ⊥ or a code some completion writes (R27). -/
  status  : ∀ c, s.status = some c → c ∈ writtenCodes
  /-- A result register holds a value only after an OK completion, and it is decoded from FRAME (R223). -/
  results : s.res = Results.bottom ∨ (s.status = some 0#4 ∧ ∃ f, s.frame = some f ∧ DecodedFrom s.cfg f s.res)
  /-- DONE goes with a written STATUS and PHASE = READY (R28, R222). -/
  done    : s.done = true → s.phase = .ready ∧ s.status ≠ none

/-- The log alternates issue, answer, issue, answer, with possibly one trailing issue (R151). -/
def alternates : List BusEvent → Bool
  | [] => true
  | [.issue _] => true
  | .issue _ :: .answer _ :: rest => alternates rest
  | .issue _ :: .issue _ :: _ => false
  | .answer _ :: _ => false

/-- The log of a block that was not reset during a transaction: it alternates, and its trailing issue, if any, is the
transaction in flight (R65, R151). -/
def LogInStep (s : State) : Prop :=
  alternates s.busLog = true ∧
  (s.phase = .ready → s.busLog.length % 2 = 0) ∧
  (s.phase = .waitBus → s.busLog.length % 2 = 1 ∧ ∃ t, s.txnL = some t ∧ s.busLog.getLast? = some (.issue t))

end Sys2Proof.Machine
end

