-- ==== Sys2Proof/Certificates/Slice0/Obligations.lean ====
section
/-! DEFINITION. The statements about the block. The states they conclude with are written out here from the spec's
tables (issued, completed, the opcode and state tables), not through the model's own operations. -/

open Sys2Proof Sys2Proof.Machine

/-! The spec's tables and the two states a request leaves, as the statements use them. -/

/-- CROM_SS (R122): (High, enabled) is 0x2C06, the others are parameters. -/
def Sys2Proof.Spec.ssOpcode (c : Config) : Rep → Stretch → Word
  | .high, .enabled => 0x2C06#16
  | .high, .disabled => c.cromSs.highOff
  | .medium, .enabled => c.cromSs.mediumOn
  | .medium, .disabled => c.cromSs.mediumOff
  | .low, .enabled => c.cromSs.lowOn
  | .low, .disabled => c.cromSs.lowOff

/-- The row of CROM_PER for a rate (R123). -/
def Sys2Proof.Spec.perRow (c : CromPer) : Rate → CromPerRow
  | .mps0_5 => c.mps0_5
  | .mps1 => c.mps1
  | .mps2 => c.mps2
  | .mps4 => c.mps4
  | .mps10 => c.mps10

/-- CROM_PER (R123). -/
def Sys2Proof.Spec.perOpcode (c : Config) (rate : Rate) : Rep → Word
  | .high => (Sys2Proof.Spec.perRow c.cromPer rate).high
  | .medium => (Sys2Proof.Spec.perRow c.cromPer rate).medium
  | .low => (Sys2Proof.Spec.perRow c.cromPer rate).low

/-- The request words of SS_TEMP (R83). -/
def Sys2Proof.Spec.ssWord : Rep → Stretch → Word
  | .low, .disabled => 0x0001#16
  | .medium, .disabled => 0x0011#16
  | .high, .disabled => 0x0021#16
  | .low, .enabled => 0x0201#16
  | .medium, .enabled => 0x0211#16
  | .high, .enabled => 0x0221#16

/-- The request words of PER_START (R83). -/
def Sys2Proof.Spec.perWord : Rate → Rep → Word
  | .mps0_5, .low => 0x0002#16
  | .mps0_5, .medium => 0x0012#16
  | .mps0_5, .high => 0x0022#16
  | .mps1, .low => 0x0042#16
  | .mps1, .medium => 0x0052#16
  | .mps1, .high => 0x0062#16
  | .mps2, .low => 0x0082#16
  | .mps2, .medium => 0x0092#16
  | .mps2, .high => 0x00A2#16
  | .mps4, .low => 0x00C2#16
  | .mps4, .medium => 0x00D2#16
  | .mps4, .high => 0x00E2#16
  | .mps10, .low => 0x0102#16
  | .mps10, .medium => 0x0112#16
  | .mps10, .high => 0x0122#16

/-- The session an operation requires, if any (state_ok of R160). -/
def Sys2Proof.Spec.needs : Op → Option Session
  | .perStart => some .idle
  | .perRead => some .periodicMeasuring
  | .perEnd => some .periodicMeasuring
  | .ssTemp | .heaterOn | .heaterOff | .readId | .softReset | .busReset | .readStatus | .clearStatus => none

/-- The session admits the operation. -/
def Sys2Proof.Spec.Admits (op : Op) (ses : Session) : Prop :=
  ∀ need, Sys2Proof.Spec.needs op = some need → ses = need

/-- SESSION after an OK completion of an operation (R174). -/
def Sys2Proof.Spec.sessionAfter : Op → Session → Session
  | .perStart, _ => .periodicMeasuring
  | .perEnd, _ => .idle
  | .softReset, _ => .idle
  | .ssTemp, ses | .perRead, ses | .heaterOn, ses | .heaterOff, ses | .readId, ses | .busReset, ses
  | .readStatus, ses | .clearStatus, ses => ses

/-- The operations with a response frame (R161). -/
def Sys2Proof.Spec.reads : List Op := [.ssTemp, .perRead, .readId, .readStatus]

/-- The state after a request was accepted and its transaction issued (R144, R160). -/
def Sys2Proof.Spec.issued (w : Word) (t : Txn) (s : State) : State :=
  { s with
    reqL := some w, txnL := some t, phase := .waitBus, busOwned := true, done := false
    busLog := s.busLog ++ [.issue t] }

/-- The state after a completion without a transaction (R149, R222). -/
def Sys2Proof.Spec.turnedAway (code : BitVec 4) (s : State) : State :=
  { s with
    status := some code, res := ⟨none, none, none, none, none, none⟩
    reqL := none, txnL := none, phase := .ready, busOwned := false, done := true }

/-- The state after the answer a completed the request in progress with a code (R146, R222). -/
def Sys2Proof.Spec.completed (code : BitVec 4) (written : Results) (a : Answer) (rest : List Input)
    (s : State) : State :=
  { s with
    status := some code, res := written
    reqL := none, txnL := none, phase := .ready, busOwned := false, done := true
    busLog := s.busLog ++ [.answer a], inputs := rest }

/-- The block waits for the answer of a transaction, the host holds the words of held, and the transport answers a. -/
def Sys2Proof.Spec.Answered (s : State) (t : Txn) (a : Answer) (held : List Word) (rest : List Input) : Prop :=
  s.phase = .waitBus ∧ s.txnL = some t ∧ s.inputs = held.map .request ++ .answer a :: rest

/-- The inputs left: the held words keep their place. -/
def Sys2Proof.Spec.left (held : List Word) (rest : List Input) : List Input := held.map .request ++ rest

/-- The word be16(b0, b1) = b0 * 256 + b1 (R10). -/
def Sys2Proof.Spec.word (b0 b1 : Byte) : Word := BitVec.ofNat 16 (b0.toNat * 256 + b1.toNat)

/-- TEMP_ROUND (R182): the identity keeps the exact rational; a numbered encoding is the free value of log entry 3. -/
def Sys2Proof.Spec.rounded : TempRound → Rat → Rat
  | .identity, x => x
  | .format n, x => Config.tempFormat n x

/-- RES_RAW and RES_TEMP of a temperature frame, every other result register ⊥ (R163, R181, R182). -/
def Sys2Proof.Spec.temperature (c : Config) (b0 b1 : Byte) : Results :=
  { raw := some (Sys2Proof.Spec.word b0 b1)
    temp := some (rounded c.tempRound (-45 + 175 * ((b0.toNat * 256 + b1.toNat : Nat) : Rat) / 65535))
    st0 := none, st1 := none, heater := none, id := none }

/-- A transport answer that is a transport failure for a transaction (R141, R145). -/
def Sys2Proof.Spec.Failure : Txn → Answer → Prop
  | _, .nak => True
  | .writeRead _ _ n, .ack r => r.length ≠ n
  | .write _ _, .ack r => r ≠ []

/-- One shift step of R100 on the register as a number. -/
def Sys2Proof.Spec.crcStep (c : Nat) : Nat :=
  if c.testBit 7 then ((2 * c) ^^^ 0x31) % 256 else (2 * c) % 256

open Sys2Proof.Spec

/-! The checksum validator. -/

/-- R100: the register starts at 0xFF, each byte is XORed in and followed by eight shift steps. -/
def Obligations.CrcIsTheShiftRegisterOfItsParameters : Prop :=
  ∀ d : List Byte, (crc8 d).toNat = d.foldl (fun c b => crcStep^[8] (c ^^^ b.toNat)) 0xFF

/-- R106: the residue of a list followed by its own checksum is zero. -/
def Obligations.CrcResidueIsZero : Prop :=
  (∀ d : List Byte, crc8 (d ++ [crc8 d]) = 0#8) ∧ ∀ a b : Byte, crc8 [a, b, crc8 [a, b]] = 0#8

/-- R107, the part DOC0 asks for: one or two flipped bits among the 24 of a word group whose checksum was correct make
verify false. p and q are bit positions of the 24-bit group, equal for a single flip. -/
def Obligations.WordGroupDetectsOneOrTwoFlippedBits : Prop :=
  ∀ (a b : Byte) (p q : Fin 24),
    let flips : BitVec 24 := if p = q then BitVec.twoPow 24 p else BitVec.twoPow 24 p ^^^ BitVec.twoPow 24 q
    let f : BitVec 24 := (a ++ b ++ crc8 [a, b]) ^^^ flips
    let f0 := f.extractLsb' 16 8
    let f1 := f.extractLsb' 8 8
    let f2 := f.extractLsb' 0 8
    verify [f0, f1, f2] 0 2 f2 = .ok false

/-- R107: every error of odd weight is detected, in a word group and in the identification frame alike: a list and its
checksum together have an even number of one bits. -/
def Obligations.DataAndChecksumHaveEvenParity : Prop :=
  ∀ d : List Byte,
    ((d ++ [crc8 d]).map (fun b => ((List.range 8).filter (fun k => b.getLsbD k)).length)).sum % 2 = 0

/-- R101: COMPUTE is the checksum of the span, and has no value when an index is out of range (the spec's decision D27:
a fault, log entry 12). -/
def Obligations.ComputeIsTheChecksumOfItsSpan : Prop :=
  (∀ before span after : List Byte,
    compute (before ++ span ++ after) before.length (before.length + span.length) = .ok (crc8 span)) ∧
  (∀ (bytes : List Byte) (start stop : Nat), ¬ (start ≤ stop ∧ stop ≤ bytes.length) →
    compute bytes start stop = .error (.checksumRange start stop bytes.length)) ∧
  (∀ (bytes : List Byte) (start : Nat), start ≤ bytes.length → compute bytes start start = .ok 0xFF#8) ∧
  compute [0xBE#8, 0xEF#8] 0 2 = .ok 0x92#8

/-- R102: VERIFY compares all eight bits, and fails as COMPUTE does. -/
def Obligations.VerifyComparesWithTheExpectedByte : Prop :=
  (∀ (frame : List Byte) (start stop : Nat) (expected : Byte),
    (∀ c, compute frame start stop = .ok c → verify frame start stop expected = .ok (decide (c = expected))) ∧
    (∀ e, compute frame start stop = .error e → verify frame start stop expected = .error e)) ∧
  verify [0x66#8, 0x00#8, 0x8E#8] 0 2 0x8E#8 = .ok true ∧ verify [0x66#8, 0x00#8, 0x8F#8] 0 2 0x8F#8 = .ok false

/-- R105: the checksum of the single bytes 0x00 to 0x0F. -/
def Obligations.SingleByteChecksumTable : Prop :=
  (List.range 16).map (fun b => crc8 [BitVec.ofNat 8 b]) =
    [0xAC#8, 0x9D#8, 0xCE#8, 0xFF#8, 0x68#8, 0x59#8, 0x0A#8, 0x3B#8,
     0x15#8, 0x24#8, 0x77#8, 0x46#8, 0xD1#8, 0xE0#8, 0xB3#8, 0x82#8]

/-! Byte order and the temperature transform. -/

/-- R54, R55, R10: an opcode is sent high byte first, and the two bytes assemble to it again. -/
def Obligations.WordsAreBigEndian : Prop :=
  (∀ w : Word, opcodeBytes w = [BitVec.ofNat 8 (w.toNat / 256), BitVec.ofNat 8 (w.toNat % 256)]) ∧
  opcodeBytes 0x2C06#16 = [0x2C#8, 0x06#8] ∧
  (∀ a b : Byte, (be16 a b).toNat = a.toNat * 256 + b.toNat) ∧
  (∀ w : Word, be16 (hi8 w) (lo8 w) = w)

/-- R181: the formula, strictly increasing, its end points, its range and its step. -/
def Obligations.TemperatureTransform : Prop :=
  (∀ raw : Word, tempOfRaw raw = -45 + 175 * (raw.toNat : Rat) / 65535) ∧
  (∀ a b : Word, a < b → tempOfRaw a < tempOfRaw b) ∧
  tempOfRaw 0x0000#16 = -45 ∧ tempOfRaw 0xFFFF#16 = 130 ∧
  (∀ raw : Word, -45 ≤ tempOfRaw raw ∧ tempOfRaw raw ≤ 130) ∧
  (∀ raw : Word, raw.toNat < 65535 → tempOfRaw (raw + 1) - tempOfRaw raw = 35 / 13107)

/-! Encoding. -/

/-- R77, R83, R86: a word decodes to a request exactly if it is that request's word. -/
def Obligations.DecodeAndEncodeAgree : Prop :=
  ∀ (w : Word) (i : Instr), decode w = .ok i ↔ encode i = w

/-- R71 to R77: a word decodes exactly if its fields pass every check; and the first stage rejects exactly the words
with an RSV bit set or a reserved OP. -/
def Obligations.DecodeAcceptsTheWellFormedWords : Prop :=
  ∀ w : Word,
    ((∃ i, decode w = .ok i) ↔ (RequestFields.ofWord w).wf = true) ∧
    ((∃ op, decodeOp w = .ok op) ↔
      ((RequestFields.ofWord w).rsvZero && (RequestFields.ofWord w).opLegal) = true) ∧
    (∀ i, decode w = .ok i → decodeOp w = .ok i.op)

/-- R70 to R74, R83: words written out from the field tables, one at least of each operation, decode to their
requests. -/
def Obligations.WrittenOutWordsDecode : Prop :=
  decode 0b000000_1_000_10_0001#16 = .ok .ssTempHighStretch ∧
  decode 0b000000_0_000_01_0001#16 = .ok .ssTempMediumNostretch ∧
  decode 0b000000_0_010_10_0010#16 = .ok .perStartMps2High ∧
  decode 0b000000_0_100_00_0010#16 = .ok .perStartMps10Low ∧
  decode 0b000000_0_000_00_0011#16 = .ok .perRead ∧
  decode 0b000000_0_000_00_0100#16 = .ok .perEnd ∧
  decode 0b000000_0_000_00_0101#16 = .ok .heaterOn ∧
  decode 0b000000_0_000_00_0110#16 = .ok .heaterOff ∧
  decode 0b000000_0_000_00_0111#16 = .ok .readId ∧
  decode 0b000000_0_000_00_1000#16 = .ok .softReset ∧
  decode 0b000000_0_000_00_1001#16 = .ok .busReset ∧
  decode 0b000000_0_000_00_1010#16 = .ok .readStatus ∧
  decode 0b000000_0_000_00_1011#16 = .ok .clearStatus

/-! The command ROM and the configuration. -/

/-- R121: the fixed opcodes and their write bytes, in every configuration. -/
def Obligations.FixedOpcodesAreTheStatedOnes : Prop :=
  ∀ (c : Config) (row : Instr × Word × List Byte),
    row ∈ [(Instr.perEnd, 0x3093#16, [0x30#8, 0x93#8]), (.perRead, 0xE000#16, [0xE0#8, 0x00#8]),
      (.softReset, 0x30A2#16, [0x30#8, 0xA2#8]), (.heaterOn, 0x306D#16, [0x30#8, 0x6D#8]),
      (.heaterOff, 0x3066#16, [0x30#8, 0x66#8]), (.readId, 0x7029#16, [0x70#8, 0x29#8]),
      (.readStatus, 0xF32D#16, [0xF3#8, 0x2D#8]), (.clearStatus, 0x3041#16, [0x30#8, 0x41#8])] →
    opcode c row.1 = some row.2.1 ∧ (rom c row.1).wbytes = row.2.2

/-- R126: the 29 sensor opcodes are pairwise distinct for every admitted configuration, and with the defaults. -/
def Obligations.SensorOpcodesAreDistinct : Prop :=
  (∀ (c : Config) (i j : Instr) (op : Word),
    c.wf = true → opcode c i = some op → opcode c j = some op → i = j) ∧
  (∀ (i j : Instr) (op : Word), opcode Config.default i = some op → opcode Config.default j = some op → i = j) ∧
  (∀ (c : Config) (i : Instr), opcode c i = none ↔ i = .busReset)

/-- R9 (log entry 10): the step refuses a configuration exactly if two of the 29 opcodes agree, DEV_ADDR is GC_ADDR,
or a length is neither 3 nor 6. -/
def Obligations.IllFormedConfigurationIsRefused : Prop :=
  ∀ s : State,
    step s = .refused .configIllFormed ↔
      ((∃ i j op, i ≠ j ∧ opcode s.cfg i = some op ∧ opcode s.cfg j = some op) ∨
        s.cfg.devAddr = s.cfg.gcAddr ∨
        ¬ (s.cfg.ssLen = 3 ∨ s.cfg.ssLen = 6) ∨ ¬ (s.cfg.perLen = 3 ∨ s.cfg.perLen = 6))

/-- R31: no step changes the configuration, block reset among them. -/
def Obligations.ConfigurationIsConstant : Prop :=
  (∀ s t : State, step s = .next t → t.cfg = s.cfg) ∧
  (∀ (i : Instr) (s t : State), exec i s = .next t → t.cfg = s.cfg) ∧
  (∀ s : State, (blockReset s).cfg = s.cfg)

/-! Acceptance: the completion of a request's first half, its issue. -/

/-- The six SS_TEMP requests issue their write-read in either session state; clock stretching changes only the opcode
(R148, R163). -/
def Obligations.SingleShotIssues : Prop :=
  ∀ (rep : Rep) (str : Stretch) (s : State), s.phase = .ready → (s.cfg.ssLen = 3 ∨ s.cfg.ssLen = 6) →
    exec (Instr.ofSsTemp rep str) s =
      .next (issued (ssWord rep str)
        (.writeRead s.cfg.devAddr (opcodeBytes (ssOpcode s.cfg rep str)) s.cfg.ssLen) s)

/-- The fifteen PER_START requests issue their write from Idle (R164). -/
def Obligations.PeriodicStartIssues : Prop :=
  ∀ (rate : Rate) (rep : Rep) (s : State), s.phase = .ready → s.session = .idle →
    exec (Instr.ofPerStart rate rep) s =
      .next (issued (perWord rate rep)
        (.write s.cfg.devAddr (opcodeBytes (perOpcode s.cfg rate rep))) s)

/-- PER_READ and PER_END issue from PeriodicMeasuring, with their fixed opcodes (R121, R165, R166). -/
def Obligations.PeriodicReadAndEndIssue : Prop :=
  ∀ s : State, s.phase = .ready → s.session = .periodicMeasuring → (s.cfg.perLen = 3 ∨ s.cfg.perLen = 6) →
    exec .perRead s = .next (issued 0x0003#16 (.writeRead s.cfg.devAddr [0xE0#8, 0x00#8] s.cfg.perLen) s) ∧
    exec .perEnd s = .next (issued 0x0004#16 (.write s.cfg.devAddr [0x30#8, 0x93#8]) s)

/-- The seven operations without operand and state precondition issue their fixed transaction; BUS_RESET goes to the
general-call address (R121, R125, R167 to R173). -/
def Obligations.UnconditionalCommandsIssue : Prop :=
  ∀ s : State, s.phase = .ready →
    exec .heaterOn s = .next (issued 0x0005#16 (.write s.cfg.devAddr [0x30#8, 0x6D#8]) s) ∧
    exec .heaterOff s = .next (issued 0x0006#16 (.write s.cfg.devAddr [0x30#8, 0x66#8]) s) ∧
    exec .readId s = .next (issued 0x0007#16 (.writeRead s.cfg.devAddr [0x70#8, 0x29#8] 9) s) ∧
    exec .softReset s = .next (issued 0x0008#16 (.write s.cfg.devAddr [0x30#8, 0xA2#8]) s) ∧
    exec .busReset s = .next (issued 0x0009#16 (.write s.cfg.gcAddr s.cfg.gcPayload) s) ∧
    exec .readStatus s = .next (issued 0x000A#16 (.writeRead s.cfg.devAddr [0xF3#8, 0x2D#8] 3) s) ∧
    exec .clearStatus s = .next (issued 0x000B#16 (.write s.cfg.devAddr [0x30#8, 0x41#8]) s)

/-- In the wrong session PER_START, PER_READ and PER_END complete with PROTOCOL_STATE_ERROR, no transaction
(R164 to R166, R220; the spec's decisions D11 and D12). -/
def Obligations.WrongSessionIsAProtocolStateError : Prop :=
  ∀ (i : Instr) (s : State) (need : Session), s.phase = .ready → needs i.op = some need → s.session ≠ need →
    exec i s = .next (turnedAway 4#4 s)

/-! The completion of a request's second half, its answer. -/

/-- The six SS_TEMP requests complete with OK on a frame of SS_LEN bytes whose checked words are right, and leave the
first word and its temperature (R161, R163, R180 to R182, R186). -/
def Obligations.SingleShotCompletes : Prop :=
  ∀ (rep : Rep) (str : Stretch) (s : State) (addr : Addr) (w : List Byte) (b0 b1 c0 : Byte) (more : List Byte)
    (held : List Word) (rest : List Input),
    Answered s (.writeRead addr w s.cfg.ssLen) (.ack (b0 :: b1 :: c0 :: more)) held rest →
    (s.cfg.ssLen = 3 ∨ s.cfg.ssLen = 6) → more.length + 3 = s.cfg.ssLen →
    crc8 [b0, b1] = c0 →
    (∀ b3 b4 c1, more = [b3, b4, c1] → s.cfg.verifyWord1 = true → crc8 [b3, b4] = c1) →
    exec (Instr.ofSsTemp rep str) s =
      .next { completed 0#4 (temperature s.cfg b0 b1) (.ack (b0 :: b1 :: c0 :: more)) (left held rest) s with
        frame := some (b0 :: b1 :: c0 :: more) }

/-- PER_READ completes with OK likewise, on a frame of PER_LEN bytes (R161, R165). -/
def Obligations.PeriodicReadCompletes : Prop :=
  ∀ (s : State) (addr : Addr) (w : List Byte) (b0 b1 c0 : Byte) (more : List Byte)
    (held : List Word) (rest : List Input),
    Answered s (.writeRead addr w s.cfg.perLen) (.ack (b0 :: b1 :: c0 :: more)) held rest →
    (s.cfg.perLen = 3 ∨ s.cfg.perLen = 6) → more.length + 3 = s.cfg.perLen →
    crc8 [b0, b1] = c0 →
    (∀ b3 b4 c1, more = [b3, b4, c1] → s.cfg.verifyWord1 = true → crc8 [b3, b4] = c1) →
    exec .perRead s =
      .next { completed 0#4 (temperature s.cfg b0 b1) (.ack (b0 :: b1 :: c0 :: more)) (left held rest) s with
        frame := some (b0 :: b1 :: c0 :: more) }

/-- READ_STATUS completes with OK when the third byte is the checksum of the first two: the two bytes, the word and
the heater bit at the configured place (R172, R183, R184). -/
def Obligations.ReadStatusCompletes : Prop :=
  ∀ (s : State) (addr : Addr) (w : List Byte) (b0 b1 : Byte) (held : List Word) (rest : List Input),
    Answered s (.writeRead addr w 3) (.ack [b0, b1, crc8 [b0, b1]]) held rest →
    exec .readStatus s =
      .next { completed 0#4
          { raw := some (word b0 b1), temp := none, st0 := some b0, st1 := some b1, id := none
            heater := some ((if s.cfg.heaterByte = 0 then b0 else b1).getLsbD s.cfg.heaterBit.val) }
          (.ack [b0, b1, crc8 [b0, b1]]) (left held rest) s with
        frame := some [b0, b1, crc8 [b0, b1]] }

/-- The write-only requests complete with OK on Ack([]): PER_START leaves PeriodicMeasuring, PER_END and SOFT_RESET
leave Idle, HEATER_ON, HEATER_OFF, BUS_RESET and CLEAR_STATUS leave SESSION alone; no result register keeps a value
(R162, R164, R166 to R168, R170, R171, R173). -/
def Obligations.WriteOnlyRequestsComplete : Prop :=
  ∀ (i : Instr) (s : State) (addr : Addr) (w : List Byte) (held : List Word) (rest : List Input),
    i.op ∉ reads → Answered s (.write addr w) (.ack []) held rest →
    exec i s =
      .next { completed 0#4 ⟨none, none, none, none, none, none⟩ (.ack []) (left held rest) s with
        session := sessionAfter i.op s.session }

/-- R145, R220 (the spec's decision D19): for every request, a Nak, an Ack of the wrong length and an Ack with data
for a write complete it with BUS_ERROR and change neither SESSION nor FRAME. -/
def Obligations.FailedTransactionIsABusError : Prop :=
  ∀ (i : Instr) (s : State) (t : Txn) (a : Answer) (held : List Word) (rest : List Input),
    Answered s t a held rest → Failure t a →
    exec i s = .next (completed 1#4 ⟨none, none, none, none, none, none⟩ a (left held rest) s)

/-- R161, R220: a checked word of a temperature or status frame that does not match its checksum byte completes the
request with CHECKSUM_ERROR: the first word always, the second of a 6-byte frame under VERIFY_WORD1. FRAME holds the
bytes, no result register a value. -/
def Obligations.WordChecksumMismatchIsAChecksumError : Prop :=
  ∀ (i : Instr) (s : State) (addr : Addr) (w : List Byte) (b0 b1 c0 : Byte) (more : List Byte)
    (held : List Word) (rest : List Input),
    i.op ∈ [Op.ssTemp, .perRead, .readStatus] →
    (more.length = 0 ∨ more.length = 3) →
    (i.op = .ssTemp → s.cfg.ssLen = more.length + 3) → (i.op = .perRead → s.cfg.perLen = more.length + 3) →
    (i.op = .readStatus → more = []) →
    Answered s (.writeRead addr w (more.length + 3)) (.ack (b0 :: b1 :: c0 :: more)) held rest →
    (crc8 [b0, b1] ≠ c0 ∨
      ∃ b3 b4 c1, more = [b3, b4, c1] ∧ s.cfg.verifyWord1 = true ∧ crc8 [b3, b4] ≠ c1) →
    exec i s =
      .next { completed 2#4 ⟨none, none, none, none, none, none⟩ (.ack (b0 :: b1 :: c0 :: more)) (left held rest) s
        with frame := some (b0 :: b1 :: c0 :: more) }

/-- R169, the whole rule of READ_ID: from either session one write-read of 9 bytes; the first eight bytes in RES_ID
when the ninth is their checksum as one run, else CHECKSUM_ERROR; BUS_ERROR on a failed transaction; and
INVALID_ARGUMENT for any other word with its OP. -/
def Obligations.ReadIdentificationRule : Prop :=
  (∀ s : State, s.phase = .ready →
    exec .readId s = .next (issued 0x0007#16 (.writeRead s.cfg.devAddr [0x70#8, 0x29#8] 9) s)) ∧
  (∀ (s : State) (addr : Addr) (w : List Byte) (v : Vector Byte 8) (c : Byte) (held : List Word) (rest : List Input),
    Answered s (.writeRead addr w 9) (.ack (v.toList ++ [c])) held rest →
    (crc8 v.toList = c →
      exec .readId s =
        .next { completed 0#4 { raw := none, temp := none, st0 := none, st1 := none, heater := none, id := some v }
            (.ack (v.toList ++ [c])) (left held rest) s with
          frame := some (v.toList ++ [c]) }) ∧
    (crc8 v.toList ≠ c →
      exec .readId s =
        .next { completed 2#4 ⟨none, none, none, none, none, none⟩ (.ack (v.toList ++ [c])) (left held rest) s with
          frame := some (v.toList ++ [c]) })) ∧
  (∀ (s : State) (t : Txn) (a : Answer) (held : List Word) (rest : List Input),
    Answered s t a held rest → Failure t a →
    exec .readId s = .next (completed 1#4 ⟨none, none, none, none, none, none⟩ a (left held rest) s)) ∧
  (∀ (s : State) (w : Word) (rest : List Input), s.cfg.wf = true → s.phase = .ready → s.inputs = .request w :: rest →
    (RequestFields.ofWord w).op = 0x7#4 → w ≠ 0x0007#16 →
    step s = .next (turnedAway 5#4 { s with inputs := rest })) ∧
  crc8 [0x01#8, 0x02#8, 0x03#8, 0x04#8, 0x05#8, 0x06#8, 0x07#8, 0x08#8] = 0xD0#8

/-- R167, R168, R173, the requests HEATER_ON, HEATER_OFF and CLEAR_STATUS from issue to completion: from either session
one write of the stated bytes; OK on Ack([]), BUS_ERROR on a failed transaction (a Nak, or by R145 and the spec's
decision D19 an Ack with data for a write), SESSION unchanged and every result register ⊥ both times; and
INVALID_ARGUMENT for any other word with the OP. -/
def Obligations.HeaterAndClearStatusRules : Prop :=
  ∀ (row : Instr × Word × BitVec 4 × List Byte) (s : State),
    row ∈ [(Instr.heaterOn, 0x0005#16, 0x5#4, [0x30#8, 0x6D#8]), (.heaterOff, 0x0006#16, 0x6#4, [0x30#8, 0x66#8]),
      (.clearStatus, 0x000B#16, 0xB#4, [0x30#8, 0x41#8])] →
    (s.phase = .ready → exec row.1 s = .next (issued row.2.1 (.write s.cfg.devAddr row.2.2.2) s)) ∧
    (∀ (addr : Addr) (w : List Byte) (held : List Word) (rest : List Input),
      Answered s (.write addr w) (.ack []) held rest →
      exec row.1 s = .next (completed 0#4 ⟨none, none, none, none, none, none⟩ (.ack []) (left held rest) s)) ∧
    (∀ (t : Txn) (a : Answer) (held : List Word) (rest : List Input), Answered s t a held rest → Failure t a →
      exec row.1 s = .next (completed 1#4 ⟨none, none, none, none, none, none⟩ a (left held rest) s)) ∧
    (∀ (w : Word) (rest : List Input), s.cfg.wf = true → s.phase = .ready → s.inputs = .request w :: rest →
      (RequestFields.ofWord w).op = row.2.2.1 → w ≠ row.2.1 →
      step s = .next (turnedAway 5#4 { s with inputs := rest }))

/-- R222 (the spec's decisions D5 and D6): what complete(code) writes, and that it writes nothing else. -/
def Obligations.CompletionEntry : Prop :=
  ∀ (code : Code) (written : Results) (s : State),
    complete code written s =
      { s with
        status := some code.bits
        res := if code = .ok then written else ⟨none, none, none, none, none, none⟩
        reqL := none, txnL := none, phase := .ready, busOwned := false, done := true } ∧
    [Code.ok, .busError, .checksumError, .measurementError, .protocolStateError, .invalidArgument].map Code.bits =
      [0#4, 1#4, 2#4, 3#4, 4#4, 5#4]

/-! Frames: what a request leaves unchanged. -/

/-- Accepting a request, or turning it away, changes only REQ_L, TXN_L, PHASE, STATUS, DONE, the result registers,
bus ownership and the bus log: SESSION, FRAME, the configuration and the inputs stay; an issued request leaves STATUS
and the results of the last one alone. For all thirty requests. -/
def Obligations.AcceptanceFrame : Prop :=
  ∀ (i : Instr) (s t : State), s.phase = .ready → exec i s = .next t →
    t.cfg = s.cfg ∧ t.session = s.session ∧ t.frame = s.frame ∧ t.inputs = s.inputs ∧
    (t.phase = .waitBus → t.status = s.status ∧ t.res = s.res ∧ t.busLog = s.busLog ++ [.issue (txnOf s.cfg i)]) ∧
    (t.phase = .ready → t.busLog = s.busLog ∧ t.res = ⟨none, none, none, none, none, none⟩)

/-- The answer step of a read request (SS_TEMP, PER_READ, READ_ID, READ_STATUS) never changes SESSION; FRAME changes
only to the bytes of a valid answer. The answer step of a write-only request never changes FRAME and leaves no result.
Neither changes the configuration, and each takes at most one answer and leaves every held request in place. -/
def Obligations.AnswerFrame : Prop :=
  ∀ (i : Instr) (s t : State), s.phase = .waitBus → exec i s = .next t →
    t.cfg = s.cfg ∧
    (i.op ∈ reads → t.session = s.session) ∧
    (t.session = s.session ∨ (t.status = some 0#4 ∧ t.session = sessionAfter i.op s.session)) ∧
    (t.frame = s.frame ∨ (i.op ∈ reads ∧ ∃ f, t.frame = some f ∧ t.busLog = s.busLog ++ [.answer (.ack f)])) ∧
    (t.phase = .waitBus → t = { s with done := false }) ∧
    (t.phase = .ready → ∃ a rest, takeAnswer s = some (a, rest) ∧ t.inputs = rest ∧
      t.busLog = s.busLog ++ [.answer a] ∧ (i.op ∉ reads → t.res = ⟨none, none, none, none, none, none⟩))

/-! The step. -/

/-- When the host's word decodes to a request, the step is the request's meaning with the word taken from the port;
when the transport answers, it is the meaning of the request in REQ_L. -/
def Obligations.StepRunsTheDecodedRequest : Prop :=
  (∀ (s : State) (w : Word) (i : Instr) (rest : List Input), s.cfg.wf = true → s.phase = .ready →
    s.inputs = .request w :: rest → decode w = .ok i → step s = exec i { s with inputs := rest }) ∧
  (∀ (s : State) (w : Word) (i : Instr) (a : Answer) (held : List Word) (rest : List Input), s.cfg.wf = true →
    s.phase = .waitBus → s.inputs = held.map .request ++ .answer a :: rest → s.reqL = some w → decode w = .ok i →
    step s = exec i s)

/-- R160, R230 (the spec's decisions D11 to D13 and D20): the acceptance pipeline, in its order: an unknown operation,
the session, the arguments, the issue. -/
def Obligations.AcceptancePipeline : Prop :=
  ∀ (s : State) (w : Word) (rest : List Input), s.cfg.wf = true → s.phase = .ready → s.inputs = .request w :: rest →
    (∀ e, decodeOp w = .error e → step s = .next (turnedAway 5#4 { s with inputs := rest })) ∧
    (∀ op, decodeOp w = .ok op →
      (¬ Admits op s.session → step s = .next (turnedAway 4#4 { s with inputs := rest })) ∧
      (Admits op s.session →
        (∀ e, decodeArgs op w = .error e → step s = .next (turnedAway 5#4 { s with inputs := rest })) ∧
        (∀ i, decodeArgs op w = .ok i →
          step s = .next (issued w
            (if (rom s.cfg i).rlen = 0 then .write (rom s.cfg i).addr (rom s.cfg i).wbytes
              else .writeRead (rom s.cfg i).addr (rom s.cfg i).wbytes (rom s.cfg i).rlen)
            { s with inputs := rest }))))

/-- R84: an illegal word completes at once with INVALID_ARGUMENT or PROTOCOL_STATE_ERROR, without a transaction and
without a change of SESSION. -/
def Obligations.IllegalWordCompletesWithoutATransaction : Prop :=
  ∀ (s : State) (w : Word) (rest : List Input), s.cfg.wf = true → s.phase = .ready → s.inputs = .request w :: rest →
    (¬ ∃ i, decode w = .ok i) →
    ((∃ op, decodeOp w = .ok op ∧ ¬ Admits op s.session) →
      step s = .next (turnedAway 4#4 { s with inputs := rest })) ∧
    ((¬ ∃ op, decodeOp w = .ok op ∧ ¬ Admits op s.session) →
      step s = .next (turnedAway 5#4 { s with inputs := rest }))

/-- R236 (the spec's decision D2; the order of the inputs is log entry 4): while WAIT_BUS no request is accepted,
dropped or reordered: the step takes the same answer or reset with the held requests at the port as without them, and
leaves them in front. -/
def Obligations.BusyPortHoldsRequests : Prop :=
  ∀ (s t : State) (held : List Word), s.phase = .waitBus → step s = .next t →
    step { s with inputs := held.map .request ++ s.inputs } =
      .next { t with inputs := held.map .request ++ t.inputs }

/-- R147: without an answer the block waits, for ever if the transport never answers (nothing changes but that DONE does
not stay asserted); and no step while WAIT_BUS, whatever the answer, issues a transaction again. -/
def Obligations.BlockWaitsAndNeverRepeats : Prop :=
  (∀ (s : State) (held : List Word), s.cfg.wf = true → s.phase = .waitBus → s.inputs = held.map .request →
    step s = .next { s with done := false } ∧
    (∀ n, Host.Core.run Sys2Proof.core (n + 1) s = .next { s with done := false })) ∧
  (∀ s t : State, s.phase = .waitBus → step s = .next t →
    (t.busLog = s.busLog ∨ ∃ a, t.busLog = s.busLog ++ [.answer a]) ∧
    (t.phase = .waitBus → t.txnL = s.txnL) ∧ (t.phase = .ready → t.txnL = none))

/-- R34: the bus is owned only while PHASE = WAIT_BUS, and a completing step releases it whatever the outcome. -/
def Obligations.BusIsOwnedOnlyWhileWaiting : Prop :=
  ∀ s t : State, (s.busOwned = true ↔ s.phase = .waitBus) → step s = .next t →
    (t.busOwned = true ↔ t.phase = .waitBus) ∧ (t.done = true → t.busOwned = false)

/-- R250 (the spec's decision D23): block reset, whatever PHASE holds: every register to its reset value, no
transaction, the configuration and the bus log unchanged. -/
def Obligations.BlockResetSetsEveryRegister : Prop :=
  ∀ (s : State) (held : List Word) (rest : List Input), s.cfg.wf = true →
    (s.phase = .ready → held = []) → s.inputs = held.map .request ++ .reset :: rest →
    step s = .next
      { cfg := s.cfg, session := .idle, phase := .ready, reqL := none, txnL := none, frame := none, status := none
        done := false, res := ⟨none, none, none, none, none, none⟩, busOwned := false, busLog := s.busLog
        inputs := held.map .request ++ rest }

/-- R251 (the spec's decision D23; log entry 7): the request a reset abandons completes with no code, and the transport's
late answer is discarded: nothing of it reaches a register or the bus log. In every READY state an answer at the port
changes nothing but that DONE is cleared (log entry 6), and so does a step with no input (log entry 8). -/
def Obligations.LateAnswerIsDiscarded : Prop :=
  (∀ (s : State) (a : Answer) (rest : List Input), s.cfg.wf = true → s.phase = .waitBus →
    s.inputs = .reset :: .answer a :: rest →
    Host.Core.run Sys2Proof.core 2 s = .next { State.resetWith s.cfg with busLog := s.busLog, inputs := rest }) ∧
  (∀ (s : State) (a : Answer) (rest : List Input), s.cfg.wf = true → s.phase = .ready →
    s.inputs = .answer a :: rest → step s = .next { s with inputs := rest, done := false }) ∧
  (∀ s : State, s.cfg.wf = true → s.phase = .ready → s.inputs = [] → step s = .next { s with done := false })

/-- R28 (the spec's decision D21; log entry 6): DONE is asserted by exactly the steps that complete a request: an
answer to the request in progress, or a word turned away; and STATUS is written by no other step but block reset. -/
def Obligations.DoneMarksEveryCompletion : Prop :=
  ∀ s t : State, step s = .next t →
    (t.done = true ↔
      (s.phase = .waitBus ∧ ∃ a rest, nextInput .waitBus s.inputs = some (.answer a, rest)) ∨
      (s.phase = .ready ∧ t.phase = .ready ∧ ∃ w rest, s.inputs = .request w :: rest)) ∧
    (t.done = true → t.status ≠ none) ∧
    (t.done = false → t.status = s.status ∨ ∃ rest, nextInput s.phase s.inputs = some (.reset, rest))

/-- R223 (the spec's decision D6): after a completion a result register holds a value only if the request that completed
wrote it with OK; the host reads of a register the value it holds (R29, R237), and reading one that holds ⊥ is a fault
(log entry 11). -/
def Obligations.ResultsAreValidOnlyAfterTheirRequest : Prop :=
  (∀ s t : State, step s = .next t → t.done = true →
    (t.status ≠ some 0#4 → t.res = ⟨none, none, none, none, none, none⟩) ∧
    (∀ ops : List Op, (t.res.raw ≠ none ∧ ops = [.ssTemp, .perRead, .readStatus]) ∨
        (t.res.temp ≠ none ∧ ops = [.ssTemp, .perRead]) ∨
        ((t.res.st0 ≠ none ∨ t.res.st1 ≠ none ∨ t.res.heater ≠ none) ∧ ops = [.readStatus]) ∨
        (t.res.id ≠ none ∧ ops = [.readId]) →
      ∃ w i, s.reqL = some w ∧ decode w = .ok i ∧ i.op ∈ ops)) ∧
  (∀ s : State,
    (s.res.raw = none ↔ hostRead .resRaw s = .error (.noValue .resRaw)) ∧
    (s.res.temp = none ↔ hostRead .resTemp s = .error (.noValue .resTemp)) ∧
    (s.res.st0 = none ↔ hostRead .resSt0 s = .error (.noValue .resSt0)) ∧
    (s.res.st1 = none ↔ hostRead .resSt1 s = .error (.noValue .resSt1)) ∧
    (s.res.heater = none ↔ hostRead .resHeater s = .error (.noValue .resHeater)) ∧
    (s.res.id = none ↔ hostRead .resId s = .error (.noValue .resId)) ∧
    (s.status = none ↔ hostRead .status s = .error (.noValue .status))) ∧
  (∀ s : State,
    (∀ v, s.res.raw = some v → hostRead .resRaw s = .ok (.word v)) ∧
    (∀ v, s.res.temp = some v → hostRead .resTemp s = .ok (.temp v)) ∧
    (∀ v, s.res.st0 = some v → hostRead .resSt0 s = .ok (.byte v)) ∧
    (∀ v, s.res.st1 = some v → hostRead .resSt1 s = .ok (.byte v)) ∧
    (∀ v, s.res.heater = some v → hostRead .resHeater s = .ok (.bit v)) ∧
    (∀ v, s.res.id = some v → hostRead .resId s = .ok (.bytes v)))

/-- R22, R23, R27, R28: what the host reads of the control registers. -/
def Obligations.HostReadsTheControlRegisters : Prop :=
  ∀ s : State,
    hostRead .session s = .ok (.bit (decide (s.session = .periodicMeasuring))) ∧
    hostRead .busy s = .ok (.bit (decide (s.phase = .waitBus))) ∧
    hostRead .done s = .ok (.bit s.done) ∧
    (∀ c, s.status = some c → hostRead .status s = .ok (.code c))

/-- R187 (the spec's decision D28): no step writes MEASUREMENT_ERROR, and every raw code decodes to a temperature:
RES_TEMP is the transform of the code through TEMP_ROUND, the exact rational itself under the identity (R182). -/
def Obligations.MeasurementErrorIsNeverRaised : Prop :=
  (∀ s t : State, step s = .next t → t.status = some 3#4 → s.status = some 3#4) ∧
  (∀ (c : Config) (raw : Word) (more : List Byte),
    ∃ r, decodeTemp c (hi8 raw :: lo8 raw :: more) = .ok r ∧ r.raw = some raw ∧
      r.temp = some (rounded c.tempRound (tempOfRaw raw)) ∧
      (c.tempRound = .identity → r.temp = some (tempOfRaw raw)))

/-- R22 (reset is the spec's decision D23): SESSION is written only by PER_START (to PeriodicMeasuring), PER_END and
SOFT_RESET (to Idle), each only when it completes with OK, and by block reset (R250). -/
def Obligations.SessionIsWrittenOnlyByItsThreeRequests : Prop :=
  ∀ s t : State, step s = .next t → t.session ≠ s.session →
    (∃ rest, nextInput s.phase s.inputs = some (.reset, rest) ∧ t.session = .idle) ∨
    (∃ w i, s.phase = .waitBus ∧ s.reqL = some w ∧ decode w = .ok i ∧ t.done = true ∧ t.status = some 0#4 ∧
      ((i.op = .perStart ∧ t.session = .periodicMeasuring) ∨
        ((i.op = .perEnd ∨ i.op = .softReset) ∧ t.session = .idle)))

/-- R224 (the spec's decision D14): a request that completes with a code other than OK leaves SESSION as it was and no
partial result. -/
def Obligations.ErrorsArePreciseForTheBlock : Prop :=
  ∀ s t : State, step s = .next t → t.done = true → t.status ≠ some 0#4 →
    t.session = s.session ∧ t.res = ⟨none, none, none, none, none, none⟩

/-- R30, R186: without VERIFY_WORD1 nothing of the second word of a 6-byte temperature frame reaches the host: two
answers that differ only there leave the same in every host-visible register. -/
def Obligations.SecondWordIsNeverExposed : Prop :=
  ∀ (i : Instr) (s s' t t' : State) (addr : Addr) (w : List Byte) (b0 b1 c0 : Byte) (more more' : List Byte)
    (rest : List Input) (r : HostReg),
    (i.op = .ssTemp ∨ i.op = .perRead) → s.cfg.verifyWord1 = false →
    s.phase = .waitBus → s.txnL = some (.writeRead addr w 6) → more.length = 3 → more'.length = 3 →
    s.inputs = .answer (.ack (b0 :: b1 :: c0 :: more)) :: rest →
    s' = { s with inputs := .answer (.ack (b0 :: b1 :: c0 :: more')) :: rest } →
    exec i s = .next t → exec i s' = .next t' → hostRead r t = hostRead r t'

/-- R149 (the spec's decision D29): a request that completes before the bus appends nothing to the bus log, any other
exactly one transaction, and no step while WAIT_BUS issues one. -/
def Obligations.OneTransactionForEachRequest : Prop :=
  (∀ (s t : State) (w : Word) (rest : List Input), s.phase = .ready → s.inputs = .request w :: rest →
    step s = .next t →
    (t.phase = .ready → t.busLog = s.busLog ∧ (t.status = some 4#4 ∨ t.status = some 5#4)) ∧
    (t.phase = .waitBus → ∃ x, t.busLog = s.busLog ++ [.issue x] ∧ t.txnL = some x)) ∧
  (∀ s t : State, s.phase = .waitBus → step s = .next t →
    t.busLog = s.busLog ∨ ∃ a, t.busLog = s.busLog ++ [.answer a]) ∧
  (∀ s t : State, s.phase = .ready → (∀ w rest, s.inputs ≠ .request w :: rest) → step s = .next t →
    t.busLog = s.busLog)

/-! Headline results. -/

/-- Two steps run a request: an accepted request that the transport answers is complete after two steps, with DONE,
one issue and one answer on the bus, and by the table of R174 the code and the session it leaves
(SESSION on a failure is the spec's decision D14). -/
def Obligations.TwoStepsRunARequest : Prop :=
  ∀ (i : Instr) (s : State) (a : Answer) (rest : List Input), s.cfg.wf = true → s.phase = .ready →
    Admits i.op s.session → s.inputs = .request (encode i) :: .answer a :: rest →
    ∃ t, Host.Core.run Sys2Proof.core 2 s = .next t ∧ t.done = true ∧ t.phase = .ready ∧ t.inputs = rest ∧
      t.busLog = s.busLog ++ [.issue (txnOf s.cfg i), .answer a] ∧
      (Failure (txnOf s.cfg i) a → t.status = some 1#4 ∧ t.session = s.session) ∧
      (¬ Failure (txnOf s.cfg i) a →
        (t.status = some 0#4 ∨ (i.op ∈ reads ∧ t.status = some 2#4)) ∧
        t.session = sessionAfter i.op s.session)

/-- The registers stay coherent: every step keeps the relations 10_state.md states between them. -/
def Obligations.EveryStepKeepsTheBlockCoherent : Prop :=
  ∀ s t : State, Coherent s → step s = .next t → Coherent t

/-- The reset state is coherent, in every configuration. -/
def Obligations.ResetIsCoherent : Prop :=
  ∀ c : Config, Coherent (State.resetWith c) ∧ LogInStep (State.resetWith c)

/-- From a coherent state in an admitted configuration no step stops: whatever the host, the transport and the reset
do, the block goes on. -/
def Obligations.CoherentBlockNeverStops : Prop :=
  ∀ s : State, Coherent s → s.cfg.wf = true → Runs (step s)

/-- R65, R151: the bus log alternates issue and answer, as long as no reset abandons a transaction (log entry 7). A reset
in READY abandons none. -/
def Obligations.BusLogAlternates : Prop :=
  ∀ s t : State, LogInStep s →
    (s.phase = .waitBus → ∀ rest, nextInput .waitBus s.inputs ≠ some (.reset, rest)) →
    step s = .next t → LogInStep t
end

