-- ==== Sys2Proof/Laws/Crc.lean ====
section
/-! SUPPORT. The checksum register over concatenation, and its linearity over XOR. -/

namespace Sys2Proof.Machine

theorem crcFrom_append (c : Byte) (d e : List Byte) : crcFrom c (d ++ e) = crcFrom (crcFrom c d) e := by
  induction d generalizing c with
  | nil => rfl
  | cons b d ih => exact ih (crcByte c b)

theorem crc8_append (d e : List Byte) : crc8 (d ++ e) = crcFrom (crc8 d) e := crcFrom_append _ d e

@[simp] theorem crc8_nil : crc8 [] = 0xFF#8 := rfl

theorem crcByte_self (c : Byte) : crcByte c c = 0#8 := by
  unfold crcByte
  rw [BitVec.xor_self]
  decide

/-- A shift step as one XOR with the feedback of the top bit. -/
theorem crcShift_eq (c : Byte) : crcShift c = (c <<< 1) ^^^ (if c.msb then 0x31#8 else 0#8) := by
  unfold crcShift
  cases c.msb <;> simp

/-- A shift step is linear over XOR. -/
theorem crcShift_xor (a b : Byte) : crcShift (a ^^^ b) = crcShift a ^^^ crcShift b := by
  have swap : ∀ p q x y : Byte, (p ^^^ x) ^^^ (q ^^^ y) = (p ^^^ q) ^^^ (x ^^^ y) := fun p q x y => by ac_rfl
  rw [crcShift_eq, crcShift_eq a, crcShift_eq b, BitVec.msb_xor, BitVec.shiftLeft_xor_distrib, swap]
  cases a.msb <;> cases b.msb <;> simp

/-- A byte step is linear over XOR of the register and the byte together. -/
theorem crcByte_xor (a b c d : Byte) : crcByte (a ^^^ b) (c ^^^ d) = crcByte a c ^^^ crcByte b d := by
  have h : (a ^^^ b) ^^^ (c ^^^ d) = (a ^^^ c) ^^^ (b ^^^ d) := by ac_rfl
  simp only [crcByte, h, crcShift_xor]

/-- COMPUTE answers only on indices in range, and then the checksum of the span. -/
theorem compute_ok {bytes : List Byte} {start stop : Nat} {c : Byte} (h : compute bytes start stop = .ok c) :
    start ≤ stop ∧ stop ≤ bytes.length ∧ c = crc8 ((bytes.take stop).drop start) := by
  unfold compute at h
  split at h
  next hr => exact ⟨hr.1, hr.2, (Except.ok.inj h).symm⟩
  next => cases h

@[simp] theorem checkSpans_nil (f : List Byte) : checkSpans [] f = .ok true := rfl

/-- The check of a frame's first word alone (R59). -/
theorem checkSpans_word0 (b0 b1 c0 : Byte) (more : List Byte) :
    checkSpans [⟨0, 2, 2⟩] (b0 :: b1 :: c0 :: more) = .ok (crc8 [b0, b1] == c0) := by
  have hv : verify (b0 :: b1 :: c0 :: more) 0 2 c0 = .ok (crc8 [b0, b1] == c0) := by simp [verify, compute]
  simp only [checkSpans, List.getElem?_cons_succ, List.getElem?_cons_zero, hv]
  cases crc8 [b0, b1] == c0 <;> rfl

end Sys2Proof.Machine
end

