-- ==== Sys2Proof/Laws/Decode.lean ====
section
/-! SUPPORT. The fields of an assembled word, and the operand codes both ways. -/

namespace Sys2Proof

/-- An assembled word has the fields it was assembled from, and no reserved bit set (R70, R86). -/
theorem ofWord_assemble (op : Op) (rep : Rep) (rate : Rate) (str : Stretch) :
    RequestFields.ofWord (assemble op rep rate str) = ⟨op.field, rep.field, rate.field, str.field, 0#6⟩ := by
  cases op <;> cases rep <;> cases rate <;> cases str <;> rfl

@[simp] theorem Op.ofField_field (op : Op) : Op.ofField op.field = .ok op := by cases op <;> rfl

@[simp] theorem Rep.ofField_field (rep : Rep) : Rep.ofField rep.field = .ok rep := by cases rep <;> rfl

@[simp] theorem Rate.ofField_field (rate : Rate) : Rate.ofField rate.field = .ok rate := by cases rate <;> rfl

@[simp] theorem Stretch.ofField_field (str : Stretch) : Stretch.ofField str.field = str := by cases str <;> rfl

@[simp] theorem Instr.op_ofSsTemp (rep : Rep) (str : Stretch) : (Instr.ofSsTemp rep str).op = .ssTemp := by
  cases rep <;> cases str <;> rfl

@[simp] theorem Instr.op_ofPerStart (rate : Rate) (rep : Rep) : (Instr.ofPerStart rate rep).op = .perStart := by
  cases rate <;> cases rep <;> rfl

end Sys2Proof
end

