-- ==== Sys2Proof/Laws/State.lean ====
section
/-! SUPPORT. One lemma for each field under each update of State, true by rfl, so that no later proof unfolds a record
update. -/

namespace Sys2Proof.Machine

/-! The fields after complete. -/

@[simp] theorem complete_cfg (code : Code) (written : Results) (s : State) : (complete code written s).cfg = s.cfg := rfl

@[simp] theorem complete_session (code : Code) (written : Results) (s : State) : (complete code written s).session = s.session := rfl

@[simp] theorem complete_phase (code : Code) (written : Results) (s : State) : (complete code written s).phase = .ready := rfl

@[simp] theorem complete_reqL (code : Code) (written : Results) (s : State) : (complete code written s).reqL = none := rfl

@[simp] theorem complete_txnL (code : Code) (written : Results) (s : State) : (complete code written s).txnL = none := rfl

@[simp] theorem complete_frame (code : Code) (written : Results) (s : State) : (complete code written s).frame = s.frame := rfl

@[simp] theorem complete_status (code : Code) (written : Results) (s : State) : (complete code written s).status = some code.bits := rfl

@[simp] theorem complete_done (code : Code) (written : Results) (s : State) : (complete code written s).done = true := rfl

@[simp] theorem complete_res (code : Code) (written : Results) (s : State) : (complete code written s).res = if code = .ok then written else Results.bottom := rfl

@[simp] theorem complete_busOwned (code : Code) (written : Results) (s : State) : (complete code written s).busOwned = false := rfl

@[simp] theorem complete_busLog (code : Code) (written : Results) (s : State) : (complete code written s).busLog = s.busLog := rfl

@[simp] theorem complete_inputs (code : Code) (written : Results) (s : State) : (complete code written s).inputs = s.inputs := rfl

/-! The fields after completeBare. -/

@[simp] theorem completeBare_cfg (code : Code) (s : State) : (completeBare code s).cfg = s.cfg := rfl

@[simp] theorem completeBare_session (code : Code) (s : State) : (completeBare code s).session = s.session := rfl

@[simp] theorem completeBare_phase (code : Code) (s : State) : (completeBare code s).phase = .ready := rfl

@[simp] theorem completeBare_reqL (code : Code) (s : State) : (completeBare code s).reqL = none := rfl

@[simp] theorem completeBare_txnL (code : Code) (s : State) : (completeBare code s).txnL = none := rfl

@[simp] theorem completeBare_frame (code : Code) (s : State) : (completeBare code s).frame = s.frame := rfl

@[simp] theorem completeBare_status (code : Code) (s : State) : (completeBare code s).status = some code.bits := rfl

@[simp] theorem completeBare_done (code : Code) (s : State) : (completeBare code s).done = true := rfl

@[simp] theorem completeBare_res (code : Code) (s : State) : (completeBare code s).res = Results.bottom := by
  simp [completeBare]

@[simp] theorem completeBare_busOwned (code : Code) (s : State) : (completeBare code s).busOwned = false := rfl

@[simp] theorem completeBare_busLog (code : Code) (s : State) : (completeBare code s).busLog = s.busLog := rfl

@[simp] theorem completeBare_inputs (code : Code) (s : State) : (completeBare code s).inputs = s.inputs := rfl

/-! The fields after idle. -/

@[simp] theorem idle_cfg (s : State) : (idle s).cfg = s.cfg := rfl

@[simp] theorem idle_session (s : State) : (idle s).session = s.session := rfl

@[simp] theorem idle_phase (s : State) : (idle s).phase = s.phase := rfl

@[simp] theorem idle_reqL (s : State) : (idle s).reqL = s.reqL := rfl

@[simp] theorem idle_txnL (s : State) : (idle s).txnL = s.txnL := rfl

@[simp] theorem idle_frame (s : State) : (idle s).frame = s.frame := rfl

@[simp] theorem idle_status (s : State) : (idle s).status = s.status := rfl

@[simp] theorem idle_done (s : State) : (idle s).done = false := rfl

@[simp] theorem idle_res (s : State) : (idle s).res = s.res := rfl

@[simp] theorem idle_busOwned (s : State) : (idle s).busOwned = s.busOwned := rfl

@[simp] theorem idle_busLog (s : State) : (idle s).busLog = s.busLog := rfl

@[simp] theorem idle_inputs (s : State) : (idle s).inputs = s.inputs := rfl

/-! The fields after issue. -/

@[simp] theorem issue_cfg (i : Instr) (s : State) : (issue i s).cfg = s.cfg := rfl

@[simp] theorem issue_session (i : Instr) (s : State) : (issue i s).session = s.session := rfl

@[simp] theorem issue_phase (i : Instr) (s : State) : (issue i s).phase = .waitBus := rfl

@[simp] theorem issue_reqL (i : Instr) (s : State) : (issue i s).reqL = some (encode i) := rfl

@[simp] theorem issue_txnL (i : Instr) (s : State) : (issue i s).txnL = some (txnOf s.cfg i) := rfl

@[simp] theorem issue_frame (i : Instr) (s : State) : (issue i s).frame = s.frame := rfl

@[simp] theorem issue_status (i : Instr) (s : State) : (issue i s).status = s.status := rfl

@[simp] theorem issue_done (i : Instr) (s : State) : (issue i s).done = false := rfl

@[simp] theorem issue_res (i : Instr) (s : State) : (issue i s).res = s.res := rfl

@[simp] theorem issue_busOwned (i : Instr) (s : State) : (issue i s).busOwned = true := rfl

@[simp] theorem issue_busLog (i : Instr) (s : State) : (issue i s).busLog = s.busLog ++ [.issue (txnOf s.cfg i)] := rfl

@[simp] theorem issue_inputs (i : Instr) (s : State) : (issue i s).inputs = s.inputs := rfl

/-! The fields after takeAnswered. -/

@[simp] theorem takeAnswered_cfg (a : Answer) (rest : List Input) (s : State) : (takeAnswered a rest s).cfg = s.cfg := rfl

@[simp] theorem takeAnswered_session (a : Answer) (rest : List Input) (s : State) : (takeAnswered a rest s).session = s.session := rfl

@[simp] theorem takeAnswered_phase (a : Answer) (rest : List Input) (s : State) : (takeAnswered a rest s).phase = s.phase := rfl

@[simp] theorem takeAnswered_reqL (a : Answer) (rest : List Input) (s : State) : (takeAnswered a rest s).reqL = s.reqL := rfl

@[simp] theorem takeAnswered_txnL (a : Answer) (rest : List Input) (s : State) : (takeAnswered a rest s).txnL = none := rfl

@[simp] theorem takeAnswered_frame (a : Answer) (rest : List Input) (s : State) : (takeAnswered a rest s).frame = s.frame := rfl

@[simp] theorem takeAnswered_status (a : Answer) (rest : List Input) (s : State) : (takeAnswered a rest s).status = s.status := rfl

@[simp] theorem takeAnswered_done (a : Answer) (rest : List Input) (s : State) : (takeAnswered a rest s).done = s.done := rfl

@[simp] theorem takeAnswered_res (a : Answer) (rest : List Input) (s : State) : (takeAnswered a rest s).res = s.res := rfl

@[simp] theorem takeAnswered_busOwned (a : Answer) (rest : List Input) (s : State) : (takeAnswered a rest s).busOwned = false := rfl

@[simp] theorem takeAnswered_busLog (a : Answer) (rest : List Input) (s : State) : (takeAnswered a rest s).busLog = s.busLog ++ [.answer a] := rfl

@[simp] theorem takeAnswered_inputs (a : Answer) (rest : List Input) (s : State) : (takeAnswered a rest s).inputs = rest := rfl

/-! The fields after blockReset. -/

@[simp] theorem blockReset_cfg (s : State) : (blockReset s).cfg = s.cfg := rfl

@[simp] theorem blockReset_session (s : State) : (blockReset s).session = .idle := rfl

@[simp] theorem blockReset_phase (s : State) : (blockReset s).phase = .ready := rfl

@[simp] theorem blockReset_reqL (s : State) : (blockReset s).reqL = none := rfl

@[simp] theorem blockReset_txnL (s : State) : (blockReset s).txnL = none := rfl

@[simp] theorem blockReset_frame (s : State) : (blockReset s).frame = none := rfl

@[simp] theorem blockReset_status (s : State) : (blockReset s).status = none := rfl

@[simp] theorem blockReset_done (s : State) : (blockReset s).done = false := rfl

@[simp] theorem blockReset_res (s : State) : (blockReset s).res = Results.bottom := rfl

@[simp] theorem blockReset_busOwned (s : State) : (blockReset s).busOwned = false := rfl

@[simp] theorem blockReset_busLog (s : State) : (blockReset s).busLog = s.busLog := rfl

@[simp] theorem blockReset_inputs (s : State) : (blockReset s).inputs = s.inputs := rfl

/-! The fields after withFetchWord. -/

@[simp] theorem withFetchWord_cfg (s : State) (nbits w : Nat) : (s.withFetchWord nbits w).cfg = s.cfg := rfl

@[simp] theorem withFetchWord_session (s : State) (nbits w : Nat) : (s.withFetchWord nbits w).session = s.session := rfl

@[simp] theorem withFetchWord_phase (s : State) (nbits w : Nat) : (s.withFetchWord nbits w).phase = .ready := rfl

@[simp] theorem withFetchWord_reqL (s : State) (nbits w : Nat) : (s.withFetchWord nbits w).reqL = none := rfl

@[simp] theorem withFetchWord_txnL (s : State) (nbits w : Nat) : (s.withFetchWord nbits w).txnL = none := rfl

@[simp] theorem withFetchWord_frame (s : State) (nbits w : Nat) : (s.withFetchWord nbits w).frame = s.frame := rfl

@[simp] theorem withFetchWord_status (s : State) (nbits w : Nat) : (s.withFetchWord nbits w).status = s.status := rfl

@[simp] theorem withFetchWord_done (s : State) (nbits w : Nat) : (s.withFetchWord nbits w).done = s.done := rfl

@[simp] theorem withFetchWord_res (s : State) (nbits w : Nat) : (s.withFetchWord nbits w).res = s.res := rfl

@[simp] theorem withFetchWord_busOwned (s : State) (nbits w : Nat) : (s.withFetchWord nbits w).busOwned = false := rfl

@[simp] theorem withFetchWord_busLog (s : State) (nbits w : Nat) : (s.withFetchWord nbits w).busLog = s.busLog := rfl

@[simp] theorem withFetchWord_inputs (s : State) (nbits w : Nat) : (s.withFetchWord nbits w).inputs = .request (BitVec.ofNat 16 (w % 2 ^ nbits)) :: s.inputs := rfl

/-! The fields after resetWith. -/

@[simp] theorem resetWith_cfg (c : Config) : (State.resetWith c).cfg = c := rfl

@[simp] theorem resetWith_session (c : Config) : (State.resetWith c).session = .idle := rfl

@[simp] theorem resetWith_phase (c : Config) : (State.resetWith c).phase = .ready := rfl

@[simp] theorem resetWith_reqL (c : Config) : (State.resetWith c).reqL = none := rfl

@[simp] theorem resetWith_txnL (c : Config) : (State.resetWith c).txnL = none := rfl

@[simp] theorem resetWith_frame (c : Config) : (State.resetWith c).frame = none := rfl

@[simp] theorem resetWith_status (c : Config) : (State.resetWith c).status = none := rfl

@[simp] theorem resetWith_done (c : Config) : (State.resetWith c).done = false := rfl

@[simp] theorem resetWith_res (c : Config) : (State.resetWith c).res = Results.bottom := rfl

@[simp] theorem resetWith_busOwned (c : Config) : (State.resetWith c).busOwned = false := rfl

@[simp] theorem resetWith_busLog (c : Config) : (State.resetWith c).busLog = [] := rfl

@[simp] theorem resetWith_inputs (c : Config) : (State.resetWith c).inputs = [] := rfl

end Sys2Proof.Machine
end

