-- ==== Sys2Proof/Laws/Ops.lean ====
section
/-! SUPPORT. For each shared operation, what it can answer, said once. -/

namespace Sys2Proof.Machine

/-! Inputs. -/

theorem nextInput_ready_cons (x : Input) (rest : List Input) : nextInput .ready (x :: rest) = some (x, rest) := rfl

@[simp] theorem nextInput_nil (p : Phase) : nextInput p [] = none := by cases p <;> rfl

/-- While WAIT_BUS the port takes no request (R236). -/
theorem nextInput_waitBus_ne_request {l : List Input} {w : Word} {rest : List Input} :
    nextInput .waitBus l ≠ some (.request w, rest) := by
  induction l generalizing rest with
  | nil => simp
  | cons x l ih =>
    cases x with
    | request v =>
      intro h
      simp only [nextInput] at h
      split at h
      next => cases h
      next y r hy =>
        simp only [Option.some.injEq, Prod.mk.injEq] at h
        exact ih (h.1 ▸ hy)
    | answer a => intro h; simp [nextInput] at h
    | reset => intro h; simp [nextInput] at h

/-- Requests the host holds keep their place, whatever is taken behind them. -/
theorem nextInput_held (held : List Word) (l : List Input) :
    nextInput .waitBus (held.map .request ++ l) =
      (nextInput .waitBus l).map (fun p => (p.1, held.map .request ++ p.2)) := by
  induction held with
  | nil => simp
  | cons w held ih =>
    simp only [List.map_cons, List.cons_append, nextInput, ih]
    cases nextInput .waitBus l <;> rfl

theorem takeAnswer_eq {s : State} {a : Answer} {rest : List Input}
    (h : nextInput s.phase s.inputs = some (.answer a, rest)) : takeAnswer s = some (a, rest) := by
  simp [takeAnswer, h]

theorem takeAnswer_some {s : State} {a : Answer} {rest : List Input} (h : takeAnswer s = some (a, rest)) :
    nextInput s.phase s.inputs = some (.answer a, rest) := by
  unfold takeAnswer at h
  split at h
  next b r hb => simp_all
  all_goals cases h

/-! Answer validation. -/

@[simp] theorem validate_nak (t : Txn) : validate t .nak = .nak := by cases t <;> rfl

/-- A validated Ack is the answer itself, of the length the transaction expects (R145). -/
theorem validate_ack {t : Txn} {a : Answer} {r : List Byte} (h : validate t a = .ack r) :
    a = .ack r ∧ ((∃ addr w n, t = .writeRead addr w n ∧ r.length = n) ∨ (∃ addr w, t = .write addr w ∧ r = [])) := by
  cases a with
  | nak => simp at h
  | ack q =>
    cases t with
    | writeRead addr w n =>
      simp only [validate] at h
      split at h
      next hn =>
        obtain rfl : q = r := Answer.ack.inj h
        exact ⟨rfl, .inl ⟨addr, w, n, rfl, hn⟩⟩
      next => cases h
    | write addr w =>
      simp only [validate] at h
      split at h
      next hq =>
        obtain rfl : [] = r := Answer.ack.inj h
        exact ⟨by rw [hq], .inr ⟨addr, w, rfl, rfl⟩⟩
      next => cases h

/-! Acceptance. -/

theorem accept_cases (i : Instr) (s : State) :
    (stateOk i.op s.session = true ∧ accept i s = issue i s) ∨
    (stateOk i.op s.session = false ∧ accept i s = completeBare .protocolStateError s) := by
  unfold accept
  cases stateOk i.op s.session <;> simp

theorem request_ready {i : Instr} {finish : Answer → State → Result} {s : State} (h : s.phase = .ready) :
    request i finish s = .next (accept i s) := by
  simp [request, h]

theorem request_waitBus {i : Instr} {finish : Answer → State → Result} {s : State} (h : s.phase = .waitBus) :
    request i finish s = answerStep finish s := by
  simp [request, h]

/-! The answer step. -/

/-- The answer step waits, or finishes the request on the validated answer. -/
theorem answerStep_next {finish : Answer → State → Result} {s t : State} (h : answerStep finish s = .next t) :
    (takeAnswer s = none ∧ t = idle s) ∨
    (∃ a rest x, takeAnswer s = some (a, rest) ∧ s.txnL = some x ∧
      finish (validate x a) (takeAnswered a rest s) = .next t) := by
  unfold answerStep at h
  split at h
  next hn => exact .inl ⟨hn, (Host.Outcome.next.inj h).symm⟩
  next a rest ha =>
    split at h
    next => cases h
    next x hx => exact .inr ⟨a, rest, x, ha, hx, h⟩

/-- finish_read ends in BUS_ERROR, in CHECKSUM_ERROR, or in OK with the decoded results (R161). -/
theorem finishRead_next {spans : Config → List Span} {dec : Config → List Byte → Except Fault Results} {a : Answer}
    {s t : State} (h : finishRead spans dec a s = .next t) :
    (a = .nak ∧ t = completeBare .busError s) ∨
    (∃ r, a = .ack r ∧ checkSpans (spans s.cfg) r = .ok false ∧
      t = completeBare .checksumError { s with frame := some r }) ∨
    (∃ r written, a = .ack r ∧ checkSpans (spans s.cfg) r = .ok true ∧ dec s.cfg r = .ok written ∧
      t = complete .ok written { s with frame := some r }) := by
  cases a with
  | nak => exact .inl ⟨rfl, (Host.Outcome.next.inj h).symm⟩
  | ack r =>
    simp only [finishRead] at h
    split at h
    next => cases h
    next hc => exact .inr (.inl ⟨r, rfl, hc, (Host.Outcome.next.inj h).symm⟩)
    next hc =>
      split at h
      next => cases h
      next written hd => exact .inr (.inr ⟨r, written, rfl, hc, hd, (Host.Outcome.next.inj h).symm⟩)

/-- finish_write ends in BUS_ERROR with SESSION unchanged, or in OK with the request's transition (R162). -/
theorem finishWrite_next {transition : Session → Session} {a : Answer} {s t : State}
    (h : finishWrite transition a s = .next t) :
    (a = .nak ∧ t = completeBare .busError s) ∨
    (∃ r, a = .ack r ∧ t = completeBare .ok { s with session := transition s.session }) := by
  cases a with
  | nak => exact .inl ⟨rfl, (Host.Outcome.next.inj h).symm⟩
  | ack r => exact .inr ⟨r, rfl, (Host.Outcome.next.inj h).symm⟩

/-! The meanings. -/

/-- In READY every meaning is the acceptance of its request (R160). -/
theorem exec_ready (i : Instr) {s : State} (h : s.phase = .ready) : exec i s = .next (accept i s) := by
  cases i <;> exact request_ready h

/-- The spans and the decoding of a read request, and none for a write-only one (R161). -/
def readShape : Op → Option ((Config → List Span) × (Config → List Byte → Except Fault Results))
  | .ssTemp => some (fun c => tempSpans c c.ssLen, decodeTemp)
  | .perRead => some (fun c => tempSpans c c.perLen, decodeTemp)
  | .readId => some (fun _ => [⟨0, 8, 8⟩], decodeId)
  | .readStatus => some (fun _ => [⟨0, 2, 2⟩], decodeStatus)
  | .perStart | .perEnd | .heaterOn | .heaterOff | .softReset | .busReset | .clearStatus => none

/-- The SESSION transition of a write-only request (R162, R174). -/
def transitionOf : Op → Session → Session
  | .perStart, _ => .periodicMeasuring
  | .perEnd, _ => .idle
  | .softReset, _ => .idle
  | .ssTemp, x | .perRead, x | .heaterOn, x | .heaterOff, x | .readId, x | .busReset, x | .readStatus, x
  | .clearStatus, x => x

/-- The lengths of an admitted configuration (R9(c)). -/
theorem lengths_of_wf {c : Config} (h : c.wf = true) :
    (c.ssLen = 3 ∨ c.ssLen = 6) ∧ (c.perLen = 3 ∨ c.perLen = 6) := by
  simp only [Config.wf, Config.lengthsLegal, Bool.and_eq_true, Bool.or_eq_true, beq_iff_eq] at h
  exact h.2

/-- A read request issues a write-read of its length, which is 3, 6 or 9 (R52, R124). -/
theorem txnOf_read {c : Config} {i : Instr} {shape : (Config → List Span) × (Config → List Byte → Except Fault Results)}
    (hc : c.wf = true) (h : readShape i.op = some shape) :
    (∃ op, txnOf c i = .writeRead c.devAddr (opcodeBytes op) (readLen c i)) ∧
    (readLen c i = 3 ∨ readLen c i = 6 ∨ readLen c i = 9) := by
  obtain ⟨hs, hp⟩ := lengths_of_wf hc
  have hs0 : c.ssLen ≠ 0 := by omega
  have hp0 : c.perLen ≠ 0 := by omega
  cases i <;> simp [Instr.op, readShape] at h <;>
    simp [txnOf, txnOfRow, rom, opcode, readLen, hs0, hp0] <;> omega

/-- A write-only request issues a write (R124). -/
theorem txnOf_write {c : Config} {i : Instr} (h : readShape i.op = none) : ∃ addr w, txnOf c i = .write addr w := by
  cases i <;> simp [Instr.op, readShape] at h <;> exact ⟨_, _, rfl⟩

/-- In WAIT_BUS every meaning is the answer step of its operation (R146). -/
theorem exec_waitBus (i : Instr) {s : State} (h : s.phase = .waitBus) :
    exec i s =
      match readShape i.op with
      | some (spans, dec) => answerStep (finishRead spans dec) s
      | none => answerStep (finishWrite (transitionOf i.op)) s := by
  cases i <;> exact request_waitBus h

/-- Everything the answer step of a request can do: wait, BUS_ERROR, CHECKSUM_ERROR or OK (R146, R161, R162). -/
theorem exec_waitBus_next {i : Instr} {s t : State} (hp : s.phase = .waitBus) (h : exec i s = .next t) :
    (takeAnswer s = none ∧ t = idle s) ∨
    ∃ a rest x, takeAnswer s = some (a, rest) ∧ s.txnL = some x ∧
      ((validate x a = .nak ∧ t = completeBare .busError (takeAnswered a rest s)) ∨
       (∃ r spans dec, validate x a = .ack r ∧ readShape i.op = some (spans, dec) ∧
          checkSpans (spans s.cfg) r = .ok false ∧
          t = completeBare .checksumError { takeAnswered a rest s with frame := some r }) ∨
       (∃ r spans dec written, validate x a = .ack r ∧ readShape i.op = some (spans, dec) ∧
          checkSpans (spans s.cfg) r = .ok true ∧ dec s.cfg r = .ok written ∧
          t = complete .ok written { takeAnswered a rest s with frame := some r }) ∨
       (∃ r, validate x a = .ack r ∧ readShape i.op = none ∧
          t = completeBare .ok { takeAnswered a rest s with session := transitionOf i.op s.session })) := by
  rw [exec_waitBus i hp] at h
  cases hr : readShape i.op with
  | none =>
    rw [hr] at h
    obtain hw | ⟨a, rest, x, ha, hx, hf⟩ := answerStep_next h
    · exact .inl hw
    · obtain ⟨hv, ht⟩ | ⟨r, hv, ht⟩ := finishWrite_next hf
      · exact .inr ⟨a, rest, x, ha, hx, .inl ⟨hv, ht⟩⟩
      · exact .inr ⟨a, rest, x, ha, hx, .inr (.inr (.inr ⟨r, hv, rfl, ht⟩))⟩
  | some p =>
    rw [hr] at h
    obtain hw | ⟨a, rest, x, ha, hx, hf⟩ := answerStep_next h
    · exact .inl hw
    · obtain ⟨hv, ht⟩ | ⟨r, hv, hc, ht⟩ | ⟨r, written, hv, hc, hd, ht⟩ := finishRead_next hf
      · exact .inr ⟨a, rest, x, ha, hx, .inl ⟨hv, ht⟩⟩
      · exact .inr ⟨a, rest, x, ha, hx, .inr (.inl ⟨r, p.1, p.2, hv, rfl, hc, ht⟩)⟩
      · exact .inr ⟨a, rest, x, ha, hx, .inr (.inr (.inl ⟨r, p.1, p.2, written, hv, rfl, hc, hd, ht⟩))⟩

/-! The step. -/

/-- Everything a step can do. -/
theorem step_cases {s t : State} (h : step s = .next t) :
    s.cfg.wf = true ∧
    ((nextInput s.phase s.inputs = none ∧ t = idle s) ∨
     (∃ rest, nextInput s.phase s.inputs = some (.reset, rest) ∧ t = blockReset { s with inputs := rest }) ∨
     (∃ w rest, s.phase = .ready ∧ s.inputs = .request w :: rest ∧
        acceptWord exec w { s with inputs := rest } = .next t) ∨
     (∃ a rest, s.phase = .ready ∧ s.inputs = .answer a :: rest ∧ t = idle { s with inputs := rest }) ∨
     (∃ a rest w i, s.phase = .waitBus ∧ nextInput .waitBus s.inputs = some (.answer a, rest) ∧
        s.reqL = some w ∧ decode w = .ok i ∧ exec i s = .next t)) := by
  unfold step cycle at h
  split at h
  next => cases h
  next hw =>
    refine ⟨by simpa using hw, ?_⟩
    split at h
    next hn => exact .inl ⟨hn, (Host.Outcome.next.inj h).symm⟩
    next rest hn => exact .inr (.inl ⟨rest, hn, (Host.Outcome.next.inj h).symm⟩)
    next w rest hn =>
      cases hp : s.phase with
      | waitBus => rw [hp] at hn; exact absurd hn nextInput_waitBus_ne_request
      | ready =>
        cases hi : s.inputs with
        | nil => simp [hi] at hn
        | cons x l =>
          simp only [hp, hi, nextInput_ready_cons, Option.some.injEq, Prod.mk.injEq] at hn
          obtain ⟨rfl, rfl⟩ := hn
          exact .inr (.inr (.inl ⟨w, l, rfl, rfl, hp ▸ h⟩))
    next a rest hn =>
      cases hp : s.phase with
      | ready =>
        cases hi : s.inputs with
        | nil => simp [hi] at hn
        | cons x l =>
          simp only [hp, hi, nextInput_ready_cons, Option.some.injEq, Prod.mk.injEq] at hn
          obtain ⟨rfl, rfl⟩ := hn
          rw [hp] at h
          exact .inr (.inr (.inr (.inl ⟨a, l, rfl, rfl, (Host.Outcome.next.inj h).symm⟩)))
      | waitBus =>
        rw [hp] at hn h
        simp only [resume] at h
        split at h
        next => cases h
        next w hr =>
          split at h
          next i hd => exact .inr (.inr (.inr (.inr ⟨a, rest, w, i, rfl, hn, hr, hd, h⟩)))
          next => cases h

/-- Accepting a word: the request's acceptance, or the rejection that R230 orders. -/
theorem acceptWord_next {w : Word} {s t : State} (hp : s.phase = .ready) (h : acceptWord exec w s = .next t) :
    (∃ i, decode w = .ok i ∧ t = accept i s) ∨
    ((∃ e, decode w = .error e) ∧
      (t = completeBare .invalidArgument s ∨ t = completeBare .protocolStateError s)) := by
  unfold acceptWord at h
  split at h
  next i hd =>
    rw [exec_ready i hp] at h
    exact .inl ⟨i, hd, (Host.Outcome.next.inj h).symm⟩
  next e hd =>
    refine .inr ⟨⟨e, hd⟩, ?_⟩
    have ht : rejectWord w s = t := Host.Outcome.next.inj h
    unfold rejectWord at ht
    split at ht
    next => exact .inl ht.symm
    next op _ =>
      split at ht
      next => exact .inl ht.symm
      next => exact .inr ht.symm

end Sys2Proof.Machine
end

