-- ==== Sys2Proof/Laws/PerInstr.lean ====
section
/-! SUPPORT. The family RequestWord: the request word of every instruction has well-formed fields, and its OP field is
the code of its operation. -/

namespace Sys2Proof.Laws

/-- The word of an instruction passes every check of R71 to R76, and carries its operation's code (R71). -/
def RequestWord.Statement (i : Instr) : Prop :=
  (RequestFields.ofWord (encode i)).wf = true ∧ (RequestFields.ofWord (encode i)).op = i.op.field

namespace RequestWord

theorem ssTempLowNostretch : Statement .ssTempLowNostretch := ⟨rfl, rfl⟩
theorem ssTempMediumNostretch : Statement .ssTempMediumNostretch := ⟨rfl, rfl⟩
theorem ssTempHighNostretch : Statement .ssTempHighNostretch := ⟨rfl, rfl⟩
theorem ssTempLowStretch : Statement .ssTempLowStretch := ⟨rfl, rfl⟩
theorem ssTempMediumStretch : Statement .ssTempMediumStretch := ⟨rfl, rfl⟩
theorem ssTempHighStretch : Statement .ssTempHighStretch := ⟨rfl, rfl⟩
theorem perStartMps0_5Low : Statement .perStartMps0_5Low := ⟨rfl, rfl⟩
theorem perStartMps0_5Medium : Statement .perStartMps0_5Medium := ⟨rfl, rfl⟩
theorem perStartMps0_5High : Statement .perStartMps0_5High := ⟨rfl, rfl⟩
theorem perStartMps1Low : Statement .perStartMps1Low := ⟨rfl, rfl⟩
theorem perStartMps1Medium : Statement .perStartMps1Medium := ⟨rfl, rfl⟩
theorem perStartMps1High : Statement .perStartMps1High := ⟨rfl, rfl⟩
theorem perStartMps2Low : Statement .perStartMps2Low := ⟨rfl, rfl⟩
theorem perStartMps2Medium : Statement .perStartMps2Medium := ⟨rfl, rfl⟩
theorem perStartMps2High : Statement .perStartMps2High := ⟨rfl, rfl⟩
theorem perStartMps4Low : Statement .perStartMps4Low := ⟨rfl, rfl⟩
theorem perStartMps4Medium : Statement .perStartMps4Medium := ⟨rfl, rfl⟩
theorem perStartMps4High : Statement .perStartMps4High := ⟨rfl, rfl⟩
theorem perStartMps10Low : Statement .perStartMps10Low := ⟨rfl, rfl⟩
theorem perStartMps10Medium : Statement .perStartMps10Medium := ⟨rfl, rfl⟩
theorem perStartMps10High : Statement .perStartMps10High := ⟨rfl, rfl⟩
theorem perRead : Statement .perRead := ⟨rfl, rfl⟩
theorem perEnd : Statement .perEnd := ⟨rfl, rfl⟩
theorem heaterOn : Statement .heaterOn := ⟨rfl, rfl⟩
theorem heaterOff : Statement .heaterOff := ⟨rfl, rfl⟩
theorem readId : Statement .readId := ⟨rfl, rfl⟩
theorem softReset : Statement .softReset := ⟨rfl, rfl⟩
theorem busReset : Statement .busReset := ⟨rfl, rfl⟩
theorem readStatus : Statement .readStatus := ⟨rfl, rfl⟩
theorem clearStatus : Statement .clearStatus := ⟨rfl, rfl⟩

end RequestWord

end Sys2Proof.Laws
end

