-- ==== Sys2Proof/Machine/Asm.lean ====
section
/-! DEFINITION. The spec's assembler syntax (R86): a line is a request with its operands in DOC0's order, or a raw
word. It has no semantics of its own: a line stands for its request word. -/

namespace Sys2Proof.Machine

/-- A line of a program (R86). -/
inductive AsmLine where
  /-- SS_TEMP rep, str -/
  | ssTemp (rep : Rep) (str : Stretch)
  /-- PER_START rate, rep -/
  | perStart (rate : Rate) (rep : Rep)
  /-- an operation without operands, by its legal request -/
  | plain (i : Instr)
  /-- .req: a raw request word, legal or not -/
  | req (w : Word)
  deriving DecidableEq, Repr

/-- The request word of a line: OP | REP << 4 | RATE << 6 | STR << 9, or the raw word (R86). -/
def AsmLine.word : AsmLine → Word
  | .ssTemp rep str => assemble .ssTemp rep .mps0_5 str
  | .perStart rate rep => assemble .perStart rep rate .disabled
  | .plain i => encode i
  | .req w => w

end Sys2Proof.Machine
end

