-- ==== Sys2Proof/Tests/Slice0.lean ====
section
/-! SUPPORT. The model's own tests: expected values from the spec's tables and vectors (95_test_vectors.md, named at
each test), the well-formedness smoke tests, and for every obligation with hypotheses a state that meets them. -/

namespace Sys2Proof.Tests

open Sys2Proof Sys2Proof.Machine Sys2Proof.Spec

/-! Helpers. -/

/-- The next state, if there is one. -/
def after : Result → Option State
  | .next t => some t
  | .fault _ => none
  | .refused _ => none

/-- READY with one input. -/
def offered (x : Input) : State := { State.reset with inputs := [x] }

/-- READY in PeriodicMeasuring. -/
def measuring : State := { State.reset with session := .periodicMeasuring }

/-- A request in progress, with the answer it will get. -/
def waiting (s : State) (i : Instr) (a : Answer) : State :=
  { issue i s with inputs := [.answer a] }

/-- The default configuration with 6-byte single-shot frames whose second word is checked (P4). -/
def checkedSix : Config := { Config.default with ssLen := 6, verifyWord1 := true }

/-- The code, the session and the first result registers after an outcome. -/
def summary (o : Result) : Option (Option (BitVec 4) × Session × Option Word) :=
  (after o).map (fun t => (t.status, t.session, t.res.raw))

/-! The well-formedness checks refuse an ill-formed term each (R9, R71 to R76). -/

theorem test_wf_accepts : (RequestFields.ofWord 0x0221#16).wf = true ∧ Config.default.wf = true := by decide
theorem test_wf_rsv : (RequestFields.ofWord 0x8001#16).rsvZero = false := by decide
theorem test_wf_op_zero : (RequestFields.ofWord 0x0000#16).opLegal = false := by decide
theorem test_wf_op_high : (RequestFields.ofWord 0x000C#16).opLegal = false := by decide
theorem test_wf_rep : (RequestFields.ofWord 0x0031#16).repLegal = false := by decide
theorem test_wf_rate : (RequestFields.ofWord 0x0142#16).rateLegal = false := by decide
theorem test_wf_unused_rate : (RequestFields.ofWord 0x0041#16).unusedZero = false := by decide
theorem test_wf_unused_str : (RequestFields.ofWord 0x0202#16).unusedZero = false := by decide
theorem test_wf_unused_rep : (RequestFields.ofWord 0x0015#16).unusedZero = false := by decide
theorem test_wf_config_opcodes :
    ({ Config.default with cromSs := { CromSs.default with lowOn := 0x2C06#16 } } : Config).opcodesDistinct = false := by
  decide
theorem test_wf_config_addrs : ({ Config.default with devAddr := 0x00#7 } : Config).addrsDiffer = false := by decide
theorem test_wf_config_ssLen : ({ Config.default with ssLen := 4 } : Config).lengthsLegal = false := by decide
theorem test_wf_config_perLen : ({ Config.default with perLen := 9 } : Config).lengthsLegal = false := by decide

/-! The checksum (V1 to V5). -/

theorem test_crc_empty : crc8 [] = 0xFF#8 := by decide
theorem test_crc_two_bytes : crc8 [0xBE#8, 0xEF#8] = 0x92#8 ∧ crc8 [0x00#8, 0x01#8] = 0xB0#8 ∧
    crc8 [0x01#8, 0x00#8] = 0x75#8 := by decide +kernel
theorem test_crc_check_value :
    crc8 [0x31#8, 0x32#8, 0x33#8, 0x34#8, 0x35#8, 0x36#8, 0x37#8, 0x38#8, 0x39#8] = 0xF7#8 := by decide +kernel
theorem test_crc_trace : crcShift 0x41#8 = 0x82#8 ∧ crcShift 0x82#8 = 0x35#8 ∧ crcShift 0xBC#8 = 0x49#8 := by decide
theorem test_verify_second_group :
    verify [0x66#8, 0x66#8, 0x93#8, 0x12#8, 0x34#8, 0x37#8] 3 5 0x37#8 = .ok true := by decide +kernel
theorem test_verify_mismatch : verify [0x66#8, 0x00#8, 0x8F#8] 0 2 0x8F#8 = .ok false := by decide +kernel

/-! The temperature transform (V16). -/

theorem test_temp_6600 : tempOfRaw 0x6600#16 = 6355 / 257 := by decide +kernel
theorem test_temp_1234 : tempOfRaw 0x1234#16 = -426715 / 13107 := by decide +kernel

/-! Decoding: one word of each family written out from R70 to R74, bits RSV STR RATE REP OP (V7). -/

theorem test_decode_ss_temp : decode 0b000000_1_000_01_0001#16 = .ok .ssTempMediumStretch := by decide
theorem test_decode_per_start : decode 0b000000_0_011_00_0010#16 = .ok .perStartMps4Low := by decide
theorem test_decode_per_read : decode 0b000000_0_000_00_0011#16 = .ok .perRead := by decide
theorem test_decode_per_end : decode 0b000000_0_000_00_0100#16 = .ok .perEnd := by decide
theorem test_decode_heater :
    decode 0b000000_0_000_00_0101#16 = .ok .heaterOn ∧ decode 0b000000_0_000_00_0110#16 = .ok .heaterOff := by decide
theorem test_decode_read_id : decode 0b000000_0_000_00_0111#16 = .ok .readId := by decide
theorem test_decode_resets :
    decode 0b000000_0_000_00_1000#16 = .ok .softReset ∧ decode 0b000000_0_000_00_1001#16 = .ok .busReset := by decide
theorem test_decode_status :
    decode 0b000000_0_000_00_1010#16 = .ok .readStatus ∧ decode 0b000000_0_000_00_1011#16 = .ok .clearStatus := by decide

/-- Every constructor's decoding, by its word of R83. -/
theorem test_decode_table :
    [0x0001#16, 0x0011#16, 0x0021#16, 0x0201#16, 0x0211#16, 0x0221#16, 0x0002#16, 0x0012#16,
      0x0022#16, 0x0042#16, 0x0052#16, 0x0062#16, 0x0082#16, 0x0092#16, 0x00A2#16, 0x00C2#16,
      0x00D2#16, 0x00E2#16, 0x0102#16, 0x0112#16, 0x0122#16, 0x0003#16, 0x0004#16, 0x0005#16,
      0x0006#16, 0x0007#16, 0x0008#16, 0x0009#16, 0x000A#16, 0x000B#16].map decode =
      Instr.all.map .ok := by decide

theorem test_decodeTableWord : decodeTableWord 16 0x0221 = some .ssTempHighStretch ∧ decodeTableWord 16 0x0000 = none ∧
    decodeTableWord 32 0x0221 = none := by decide

/-- The assembler lines of V7. -/
theorem test_asm : (AsmLine.ssTemp .medium .enabled).word = 0x0211#16 ∧ (AsmLine.perStart .mps4 .low).word = 0x00C2#16 ∧
    (AsmLine.plain .clearStatus).word = 0x000B#16 ∧ (AsmLine.req 0x0142#16).word = 0x0142#16 := by decide

/-! Acceptance: the transaction each request issues (V6, R83), one test for each request. -/

theorem test_ssTempLowNostretch_issues : (after (execSsTempLowNostretch State.reset)).map (fun t => (t.reqL, t.txnL)) =
    some (some 0x0001#16, some (.writeRead 0x48#7 [0x24#8, 0x16#8] 3)) := by decide

theorem test_ssTempMediumNostretch_issues : (after (execSsTempMediumNostretch State.reset)).map (fun t => (t.reqL, t.txnL)) =
    some (some 0x0011#16, some (.writeRead 0x48#7 [0x24#8, 0x0B#8] 3)) := by decide

theorem test_ssTempHighNostretch_issues : (after (execSsTempHighNostretch State.reset)).map (fun t => (t.reqL, t.txnL)) =
    some (some 0x0021#16, some (.writeRead 0x48#7 [0x24#8, 0x00#8] 3)) := by decide

theorem test_ssTempLowStretch_issues : (after (execSsTempLowStretch State.reset)).map (fun t => (t.reqL, t.txnL)) =
    some (some 0x0201#16, some (.writeRead 0x48#7 [0x2C#8, 0x10#8] 3)) := by decide

theorem test_ssTempMediumStretch_issues : (after (execSsTempMediumStretch State.reset)).map (fun t => (t.reqL, t.txnL)) =
    some (some 0x0211#16, some (.writeRead 0x48#7 [0x2C#8, 0x0D#8] 3)) := by decide

theorem test_ssTempHighStretch_issues : (after (execSsTempHighStretch State.reset)).map (fun t => (t.reqL, t.txnL)) =
    some (some 0x0221#16, some (.writeRead 0x48#7 [0x2C#8, 0x06#8] 3)) := by decide

theorem test_perStartMps0_5Low_issues : (after (execPerStartMps0_5Low State.reset)).map (fun t => (t.reqL, t.txnL)) =
    some (some 0x0002#16, some (.write 0x48#7 [0x20#8, 0x2F#8])) := by decide

theorem test_perStartMps0_5Medium_issues : (after (execPerStartMps0_5Medium State.reset)).map (fun t => (t.reqL, t.txnL)) =
    some (some 0x0012#16, some (.write 0x48#7 [0x20#8, 0x24#8])) := by decide

theorem test_perStartMps0_5High_issues : (after (execPerStartMps0_5High State.reset)).map (fun t => (t.reqL, t.txnL)) =
    some (some 0x0022#16, some (.write 0x48#7 [0x20#8, 0x32#8])) := by decide

theorem test_perStartMps1Low_issues : (after (execPerStartMps1Low State.reset)).map (fun t => (t.reqL, t.txnL)) =
    some (some 0x0042#16, some (.write 0x48#7 [0x21#8, 0x2D#8])) := by decide

theorem test_perStartMps1Medium_issues : (after (execPerStartMps1Medium State.reset)).map (fun t => (t.reqL, t.txnL)) =
    some (some 0x0052#16, some (.write 0x48#7 [0x21#8, 0x26#8])) := by decide

theorem test_perStartMps1High_issues : (after (execPerStartMps1High State.reset)).map (fun t => (t.reqL, t.txnL)) =
    some (some 0x0062#16, some (.write 0x48#7 [0x21#8, 0x30#8])) := by decide

theorem test_perStartMps2Low_issues : (after (execPerStartMps2Low State.reset)).map (fun t => (t.reqL, t.txnL)) =
    some (some 0x0082#16, some (.write 0x48#7 [0x22#8, 0x2B#8])) := by decide

theorem test_perStartMps2Medium_issues : (after (execPerStartMps2Medium State.reset)).map (fun t => (t.reqL, t.txnL)) =
    some (some 0x0092#16, some (.write 0x48#7 [0x22#8, 0x20#8])) := by decide

theorem test_perStartMps2High_issues : (after (execPerStartMps2High State.reset)).map (fun t => (t.reqL, t.txnL)) =
    some (some 0x00A2#16, some (.write 0x48#7 [0x22#8, 0x36#8])) := by decide

theorem test_perStartMps4Low_issues : (after (execPerStartMps4Low State.reset)).map (fun t => (t.reqL, t.txnL)) =
    some (some 0x00C2#16, some (.write 0x48#7 [0x23#8, 0x29#8])) := by decide

theorem test_perStartMps4Medium_issues : (after (execPerStartMps4Medium State.reset)).map (fun t => (t.reqL, t.txnL)) =
    some (some 0x00D2#16, some (.write 0x48#7 [0x23#8, 0x22#8])) := by decide

theorem test_perStartMps4High_issues : (after (execPerStartMps4High State.reset)).map (fun t => (t.reqL, t.txnL)) =
    some (some 0x00E2#16, some (.write 0x48#7 [0x23#8, 0x34#8])) := by decide

theorem test_perStartMps10Low_issues : (after (execPerStartMps10Low State.reset)).map (fun t => (t.reqL, t.txnL)) =
    some (some 0x0102#16, some (.write 0x48#7 [0x27#8, 0x2A#8])) := by decide

theorem test_perStartMps10Medium_issues : (after (execPerStartMps10Medium State.reset)).map (fun t => (t.reqL, t.txnL)) =
    some (some 0x0112#16, some (.write 0x48#7 [0x27#8, 0x21#8])) := by decide

theorem test_perStartMps10High_issues : (after (execPerStartMps10High State.reset)).map (fun t => (t.reqL, t.txnL)) =
    some (some 0x0122#16, some (.write 0x48#7 [0x27#8, 0x37#8])) := by decide

theorem test_perRead_issues : (after (execPerRead measuring)).map (fun t => (t.reqL, t.txnL)) =
    some (some 0x0003#16, some (.writeRead 0x48#7 [0xE0#8, 0x00#8] 6)) := by decide

theorem test_perEnd_issues : (after (execPerEnd measuring)).map (fun t => (t.reqL, t.txnL)) =
    some (some 0x0004#16, some (.write 0x48#7 [0x30#8, 0x93#8])) := by decide

theorem test_heaterOn_issues : (after (execHeaterOn State.reset)).map (fun t => (t.reqL, t.txnL)) =
    some (some 0x0005#16, some (.write 0x48#7 [0x30#8, 0x6D#8])) := by decide

theorem test_heaterOff_issues : (after (execHeaterOff State.reset)).map (fun t => (t.reqL, t.txnL)) =
    some (some 0x0006#16, some (.write 0x48#7 [0x30#8, 0x66#8])) := by decide

theorem test_readId_issues : (after (execReadId State.reset)).map (fun t => (t.reqL, t.txnL)) =
    some (some 0x0007#16, some (.writeRead 0x48#7 [0x70#8, 0x29#8] 9)) := by decide

theorem test_softReset_issues : (after (execSoftReset State.reset)).map (fun t => (t.reqL, t.txnL)) =
    some (some 0x0008#16, some (.write 0x48#7 [0x30#8, 0xA2#8])) := by decide

theorem test_busReset_issues : (after (execBusReset State.reset)).map (fun t => (t.reqL, t.txnL)) =
    some (some 0x0009#16, some (.write 0x00#7 [0x06#8])) := by decide

theorem test_readStatus_issues : (after (execReadStatus State.reset)).map (fun t => (t.reqL, t.txnL)) =
    some (some 0x000A#16, some (.writeRead 0x48#7 [0xF3#8, 0x2D#8] 3)) := by decide

theorem test_clearStatus_issues : (after (execClearStatus State.reset)).map (fun t => (t.reqL, t.txnL)) =
    some (some 0x000B#16, some (.write 0x48#7 [0x30#8, 0x41#8])) := by decide

/-! Completion: codes, session and results (V9 to V15). -/

theorem test_ssTempLowNostretch_completes : summary (exec .ssTempLowNostretch (waiting State.reset .ssTempLowNostretch (.ack [0x80#8, 0x00#8, 0xA2#8]))) =
    some (some 0#4, .idle, some 0x8000#16) := by decide +kernel
theorem test_ssTempMediumNostretch_completes : summary (exec .ssTempMediumNostretch (waiting State.reset .ssTempMediumNostretch (.ack [0x00#8, 0x00#8, 0x81#8]))) =
    some (some 0#4, .idle, some 0x0000#16) := by decide +kernel
theorem test_ssTempHighNostretch_nak : summary (exec .ssTempHighNostretch (waiting State.reset .ssTempHighNostretch (.nak))) =
    some (some 1#4, .idle, none) := by decide +kernel
theorem test_ssTempLowStretch_short : summary (exec .ssTempLowStretch (waiting State.reset .ssTempLowStretch (.ack [0x66#8, 0x00#8]))) =
    some (some 1#4, .idle, none) := by decide +kernel
theorem test_ssTempMediumStretch_completes : summary (exec .ssTempMediumStretch (waiting State.reset .ssTempMediumStretch (.ack [0xFF#8, 0xFF#8, 0xAC#8]))) =
    some (some 0#4, .idle, some 0xFFFF#16) := by decide +kernel
theorem test_ssTempHighStretch_completes : summary (exec .ssTempHighStretch (waiting State.reset .ssTempHighStretch (.ack [0x66#8, 0x00#8, 0x8E#8]))) =
    some (some 0#4, .idle, some 0x6600#16) := by decide +kernel
theorem test_perRead_completes : summary (exec .perRead (waiting measuring .perRead (.ack [0x66#8, 0x66#8, 0x93#8, 0x12#8, 0x34#8, 0x37#8]))) =
    some (some 0#4, .periodicMeasuring, some 0x6666#16) := by decide +kernel
theorem test_perRead_mismatch : summary (exec .perRead (waiting measuring .perRead (.ack [0x66#8, 0x66#8, 0x92#8, 0x12#8, 0x34#8, 0x37#8]))) =
    some (some 2#4, .periodicMeasuring, none) := by decide +kernel
theorem test_perEnd_completes : summary (exec .perEnd (waiting measuring .perEnd (.ack []))) =
    some (some 0#4, .idle, none) := by decide +kernel
theorem test_perEnd_nak : summary (exec .perEnd (waiting measuring .perEnd (.nak))) =
    some (some 1#4, .periodicMeasuring, none) := by decide +kernel
theorem test_perStart_completes : summary (exec .perStartMps2High (waiting State.reset .perStartMps2High (.ack []))) =
    some (some 0#4, .periodicMeasuring, none) := by decide +kernel
theorem test_perStart_nak : summary (exec .perStartMps10Medium (waiting State.reset .perStartMps10Medium (.nak))) =
    some (some 1#4, .idle, none) := by decide +kernel
theorem test_heaterOn_completes : summary (exec .heaterOn (waiting measuring .heaterOn (.ack []))) =
    some (some 0#4, .periodicMeasuring, none) := by decide +kernel
theorem test_heaterOn_data_on_a_write : summary (exec .heaterOn (waiting State.reset .heaterOn (.ack [0x00#8]))) =
    some (some 1#4, .idle, none) := by decide +kernel
theorem test_heaterOff_nak : summary (exec .heaterOff (waiting measuring .heaterOff (.nak))) =
    some (some 1#4, .periodicMeasuring, none) := by decide +kernel
theorem test_softReset_completes : summary (exec .softReset (waiting measuring .softReset (.ack []))) =
    some (some 0#4, .idle, none) := by decide +kernel
theorem test_softReset_nak : summary (exec .softReset (waiting measuring .softReset (.nak))) =
    some (some 1#4, .periodicMeasuring, none) := by decide +kernel
theorem test_busReset_completes : summary (exec .busReset (waiting measuring .busReset (.ack []))) =
    some (some 0#4, .periodicMeasuring, none) := by decide +kernel
theorem test_clearStatus_completes : summary (exec .clearStatus (waiting State.reset .clearStatus (.ack []))) =
    some (some 0#4, .idle, none) := by decide +kernel

theorem test_readId_completes : (after (execReadId (waiting State.reset .readId (.ack [0x01#8, 0x02#8, 0x03#8, 0x04#8, 0x05#8, 0x06#8, 0x07#8, 0x08#8, 0xD0#8])))).map
    (fun t => (t.status, t.res.id)) = some (some 0#4, some #v[1#8, 2#8, 3#8, 4#8, 5#8, 6#8, 7#8, 8#8]) := by decide +kernel

theorem test_readId_mismatch : (after (execReadId (waiting State.reset .readId (.ack [0x01#8, 0x02#8, 0x03#8, 0x04#8, 0x05#8, 0x06#8, 0x07#8, 0x08#8, 0xD1#8])))).map
    (fun t => (t.status, t.res)) = some (some 2#4, Results.bottom) := by decide +kernel

theorem test_readStatus_completes : (after (execReadStatus (waiting State.reset .readStatus (.ack [0x04#8, 0x00#8, 0x02#8])))).map
    (fun t => (t.res.st0, t.res.st1, t.res.raw, t.res.heater)) =
    some (some 0x04#8, some 0x00#8, some 0x0400#16, some true) := by decide +kernel

theorem test_readStatus_heater_clear : (after (execReadStatus (waiting State.reset .readStatus (.ack [0xFB#8, 0xFF#8, 0x2F#8])))).map
    (fun t => t.res.heater) = some (some false) := by decide +kernel

/-- V10, P4: the second word of a 6-byte frame, checked and wrong. -/
theorem test_second_word_checked : summary (exec .ssTempHighStretch
    (waiting (State.resetWith checkedSix) .ssTempHighStretch (.ack [0x66#8, 0x00#8, 0x8E#8, 0xBE#8, 0xEF#8, 0x93#8]))) =
    some (some 2#4, .idle, none) := by decide +kernel

/-- V8, V17: the state check precedes the reserved rate. -/
theorem test_priority : summary (step { measuring with inputs := [.request 0x0142#16] }) =
      some (some 4#4, .periodicMeasuring, none) ∧
    summary (step (offered (.request 0x0142#16))) = some (some 5#4, .idle, none) := by decide +kernel

/-- The word withFetchWord places is the one the next step runs. -/
theorem test_withFetchWord : after (step (State.reset.withFetchWord 16 0x0221)) =
    after (exec .ssTempHighStretch State.reset) := by decide +kernel

/-- V18: a reset while WAIT_BUS abandons the request. -/
theorem test_reset_in_wait : (after (step { waiting State.reset .readId .nak with inputs := [.reset] })).map
    (fun t => (t.phase, t.status, t.done)) = some (.ready, none, false) := by decide +kernel

/-! Witnesses: for each obligation with hypotheses, concrete values that meet them all. -/

theorem witness_ComputeIsTheChecksumOfItsSpan :
    ¬ ((0 : Nat) ≤ 2 ∧ 2 ≤ ([0x66#8] : List Byte).length) ∧ 1 ≤ ([0x66#8] : List Byte).length := by decide

theorem witness_VerifyComparesWithTheExpectedByte :
    compute [0x66#8, 0x00#8, 0x8E#8] 0 2 = .ok 0x8E#8 ∧ compute [0x66#8] 0 2 = .error (.checksumRange 0 2 1) := by
  decide +kernel

theorem witness_TemperatureTransform : (0x6600#16 : Word) < 0x6601#16 ∧ (0xFFFE#16 : Word).toNat < 65535 := by decide

theorem witness_DecodeAcceptsTheWellFormedWords : decode 0x0122#16 = .ok .perStartMps10High := by decide

theorem witness_SensorOpcodesAreDistinct :
    Config.default.wf = true ∧ opcode Config.default .perRead = some 0xE000#16 := by decide

theorem witness_IllFormedConfigurationIsRefused_opcodes :
    opcode { Config.default with cromSs := { CromSs.default with lowOn := 0xE000#16 } } .ssTempLowStretch =
      opcode { Config.default with cromSs := { CromSs.default with lowOn := 0xE000#16 } } .perRead := by decide

theorem witness_IllFormedConfigurationIsRefused_address :
    ({ Config.default with gcAddr := 0x48#7 } : Config).devAddr = 0x48#7 := by decide

theorem witness_ConfigurationIsConstant :
    (∃ t, step State.reset = .next t) ∧ (∃ t, exec .heaterOn State.reset = .next t) := ⟨⟨_, rfl⟩, ⟨_, rfl⟩⟩

theorem witness_SingleShotIssues :
    State.reset.phase = .ready ∧ (State.reset.cfg.ssLen = 3 ∨ State.reset.cfg.ssLen = 6) := by decide

theorem witness_SingleShotIssues_six :
    (State.resetWith checkedSix).phase = .ready ∧ (State.resetWith checkedSix).cfg.ssLen = 6 := by decide

theorem witness_PeriodicStartIssues : State.reset.phase = .ready ∧ State.reset.session = .idle := by decide

theorem witness_PeriodicReadAndEndIssue : measuring.phase = .ready ∧ measuring.session = .periodicMeasuring ∧
    (measuring.cfg.perLen = 3 ∨ measuring.cfg.perLen = 6) := by decide

theorem witness_UnconditionalCommandsIssue : measuring.phase = .ready := by decide

theorem witness_WrongSessionIsAProtocolStateError :
    needs (Instr.op .perStartMps1Low) = some .idle ∧ measuring.phase = .ready ∧ measuring.session ≠ .idle ∧
    needs (Instr.op .perEnd) = some .periodicMeasuring ∧ State.reset.session ≠ .periodicMeasuring := by decide

theorem witness_SingleShotCompletes :
    Answered (waiting State.reset .ssTempHighStretch (.ack [0x66#8, 0x00#8, 0x8E#8]))
      (.writeRead 0x48#7 [0x2C#8, 0x06#8] 3) (.ack [0x66#8, 0x00#8, 0x8E#8]) [] [] ∧
    crc8 [0x66#8, 0x00#8] = 0x8E#8 := ⟨⟨rfl, rfl, rfl⟩, by decide +kernel⟩

theorem witness_SingleShotCompletes_second_word :
    Answered (waiting (State.resetWith checkedSix) .ssTempLowStretch
        (.ack [0x66#8, 0x00#8, 0x8E#8, 0xBE#8, 0xEF#8, 0x92#8]))
      (.writeRead 0x48#7 [0x2C#8, 0x10#8] 6) (.ack [0x66#8, 0x00#8, 0x8E#8, 0xBE#8, 0xEF#8, 0x92#8]) [] [] ∧
    crc8 [0x66#8, 0x00#8] = 0x8E#8 ∧ crc8 [0xBE#8, 0xEF#8] = 0x92#8 :=
  ⟨⟨rfl, rfl, rfl⟩, by decide +kernel, by decide +kernel⟩

theorem witness_PeriodicReadCompletes :
    Answered (waiting measuring .perRead (.ack [0x66#8, 0x66#8, 0x93#8, 0x12#8, 0x34#8, 0x37#8]))
      (.writeRead 0x48#7 [0xE0#8, 0x00#8] 6) (.ack [0x66#8, 0x66#8, 0x93#8, 0x12#8, 0x34#8, 0x37#8]) [] [] ∧
    measuring.cfg.perLen = 6 ∧ crc8 [0x66#8, 0x66#8] = 0x93#8 ∧ measuring.cfg.verifyWord1 = false :=
  ⟨⟨rfl, rfl, rfl⟩, rfl, by decide +kernel, rfl⟩

/-- The identification frame of scenario A. -/
def idBytes : Vector Byte 8 := #v[1#8, 2#8, 3#8, 4#8, 5#8, 6#8, 7#8, 8#8]

theorem witness_ReadStatusCompletes :
    Answered (waiting State.reset .readStatus (.ack [0x04#8, 0x00#8, crc8 [0x04#8, 0x00#8]]))
      (.writeRead 0x48#7 [0xF3#8, 0x2D#8] 3) (.ack [0x04#8, 0x00#8, crc8 [0x04#8, 0x00#8]]) [] [] :=
  ⟨rfl, rfl, rfl⟩

theorem witness_WriteOnlyRequestsComplete :
    Instr.op .perStartMps2High ∉ reads ∧
    Answered (waiting State.reset .perStartMps2High (.ack [])) (.write 0x48#7 [0x22#8, 0x36#8]) (.ack []) [] [] :=
  ⟨by decide, rfl, rfl, rfl⟩

theorem witness_FailedTransactionIsABusError :
    Answered (waiting State.reset .ssTempLowNostretch (.ack [0x66#8, 0x00#8])) (.writeRead 0x48#7 [0x24#8, 0x16#8] 3)
      (.ack [0x66#8, 0x00#8]) [] [] ∧
    Failure (.writeRead 0x48#7 [0x24#8, 0x16#8] 3) (.ack [0x66#8, 0x00#8]) :=
  ⟨⟨rfl, rfl, rfl⟩, (by decide : ([0x66#8, 0x00#8] : List Byte).length ≠ 3)⟩

theorem witness_FailedTransactionIsABusError_write :
    Answered (waiting State.reset .heaterOn (.ack [0x00#8])) (.write 0x48#7 [0x30#8, 0x6D#8]) (.ack [0x00#8]) [] [] ∧
    Failure (.write 0x48#7 [0x30#8, 0x6D#8]) (.ack [0x00#8]) :=
  ⟨⟨rfl, rfl, rfl⟩, (by decide : ([0x00#8] : List Byte) ≠ [])⟩

theorem witness_WordChecksumMismatchIsAChecksumError :
    Answered (waiting State.reset .readStatus (.ack [0x04#8, 0x00#8, 0x03#8])) (.writeRead 0x48#7 [0xF3#8, 0x2D#8] 3)
      (.ack [0x04#8, 0x00#8, 0x03#8]) [] [] ∧
    crc8 [0x04#8, 0x00#8] ≠ 0x03#8 := ⟨⟨rfl, rfl, rfl⟩, by decide +kernel⟩

theorem witness_WordChecksumMismatchIsAChecksumError_second_word :
    Answered (waiting (State.resetWith checkedSix) .ssTempMediumStretch
        (.ack [0x66#8, 0x00#8, 0x8E#8, 0xBE#8, 0xEF#8, 0x93#8]))
      (.writeRead 0x48#7 [0x2C#8, 0x0D#8] 6) (.ack [0x66#8, 0x00#8, 0x8E#8, 0xBE#8, 0xEF#8, 0x93#8]) [] [] ∧
    checkedSix.verifyWord1 = true ∧ crc8 [0xBE#8, 0xEF#8] ≠ 0x93#8 :=
  ⟨⟨rfl, rfl, rfl⟩, rfl, by decide +kernel⟩

theorem witness_ReadIdentificationRule_ok :
    Answered (waiting State.reset .readId (.ack (idBytes.toList ++ [0xD0#8]))) (.writeRead 0x48#7 [0x70#8, 0x29#8] 9)
      (.ack (idBytes.toList ++ [0xD0#8])) [] [] ∧ crc8 idBytes.toList = 0xD0#8 :=
  ⟨⟨rfl, rfl, rfl⟩, by decide +kernel⟩

theorem witness_ReadIdentificationRule_illegal :
    (RequestFields.ofWord 0x0017#16).op = 0x7#4 ∧ (0x0017#16 : Word) ≠ 0x0007#16 ∧
    (RequestFields.ofWord 0x8007#16).op = 0x7#4 := by decide

theorem witness_HeaterAndClearStatusRules :
    Answered (waiting measuring .clearStatus (.ack [])) (.write 0x48#7 [0x30#8, 0x41#8]) (.ack []) [] [] ∧
    Failure (.write 0x48#7 [0x30#8, 0x41#8]) .nak ∧
    (RequestFields.ofWord 0x0015#16).op = 0x5#4 ∧ (0x0015#16 : Word) ≠ 0x0005#16 :=
  ⟨⟨rfl, rfl, rfl⟩, trivial, by decide, by decide⟩

theorem witness_BusIsOwnedOnlyWhileWaiting :
    ((waiting State.reset .readId .nak).busOwned = true ↔ (waiting State.reset .readId .nak).phase = .waitBus) ∧
    ∃ t, step (waiting State.reset .readId .nak) = .next t := ⟨by decide, ⟨_, rfl⟩⟩

theorem witness_ReadIdentificationRule_mismatch :
    Answered (waiting State.reset .readId (.ack (idBytes.toList ++ [0xD1#8]))) (.writeRead 0x48#7 [0x70#8, 0x29#8] 9)
      (.ack (idBytes.toList ++ [0xD1#8])) [] [] ∧ crc8 idBytes.toList ≠ 0xD1#8 :=
  ⟨⟨rfl, rfl, rfl⟩, by decide +kernel⟩

theorem witness_AcceptanceFrame :
    (∃ t, exec .readId State.reset = .next t ∧ t.phase = .waitBus) ∧
    (∃ t, exec .perRead State.reset = .next t ∧ t.phase = .ready) := ⟨⟨_, rfl, rfl⟩, ⟨_, rfl, rfl⟩⟩

theorem witness_AnswerFrame :
    (waiting State.reset .heaterOff .nak).phase = .waitBus ∧
    (∃ t, exec .heaterOff (waiting State.reset .heaterOff .nak) = .next t ∧ t.phase = .ready) ∧
    (∃ t, exec .heaterOff { waiting State.reset .heaterOff .nak with inputs := [] } = .next t ∧ t.phase = .waitBus) :=
  ⟨rfl, ⟨_, rfl, rfl⟩, ⟨_, rfl, rfl⟩⟩

theorem witness_StepRunsTheDecodedRequest :
    (offered (.request 0x0005#16)).cfg.wf = true ∧ (offered (.request 0x0005#16)).phase = .ready ∧
    (offered (.request 0x0005#16)).inputs = .request 0x0005#16 :: [] ∧ decode 0x0005#16 = .ok .heaterOn := by decide

theorem witness_StepRunsTheDecodedRequest_answer :
    (waiting State.reset .readId .nak).cfg.wf = true ∧ (waiting State.reset .readId .nak).phase = .waitBus ∧
    (waiting State.reset .readId .nak).inputs = ([] : List Word).map Input.request ++ .answer .nak :: [] ∧
    (waiting State.reset .readId .nak).reqL = some 0x0007#16 ∧ decode 0x0007#16 = .ok .readId := by decide

theorem witness_AcceptancePipeline :
    decodeOp 0x000C#16 = .error .reservedOp ∧ decodeOp 0x0400#16 = .error .reservedBitSet ∧
    decodeOp 0x0142#16 = .ok .perStart ∧ decodeArgs .perStart 0x0142#16 = .error .reservedRate ∧
    decodeOp 0x0122#16 = .ok .perStart ∧ decodeArgs .perStart 0x0122#16 = .ok .perStartMps10High := by decide

theorem witness_AcceptancePipeline_session : Admits .perStart .idle ∧ ¬ Admits .perStart .periodicMeasuring :=
  ⟨fun _ h => by cases h; rfl, fun h => by cases h _ rfl⟩

theorem witness_IllegalWordCompletesWithoutATransaction :
    (offered (.request 0x0182#16)).cfg.wf = true ∧ (offered (.request 0x0182#16)).phase = .ready ∧
    decode 0x0182#16 = .error .reservedRate := by decide

theorem witness_BusyPortHoldsRequests :
    (waiting State.reset .readId .nak).phase = .waitBus ∧
    ∃ t, step (waiting State.reset .readId .nak) = .next t := ⟨rfl, ⟨_, rfl⟩⟩

theorem witness_BlockWaitsAndNeverRepeats :
    ({ waiting State.reset .readId .nak with inputs := [.request 0x0003#16] } : State).phase = .waitBus ∧
    ({ waiting State.reset .readId .nak with inputs := [.request 0x0003#16] } : State).inputs =
      [0x0003#16].map Input.request := by decide

theorem witness_BlockResetSetsEveryRegister :
    ({ waiting measuring .perRead .nak with inputs := [.request 0x0005#16, .reset] } : State).phase ≠ .ready ∧
    ({ waiting measuring .perRead .nak with inputs := [.request 0x0005#16, .reset] } : State).inputs =
      [0x0005#16].map Input.request ++ .reset :: [] := by decide

theorem witness_LateAnswerIsDiscarded :
    ({ waiting State.reset .readId .nak with inputs := [.reset, .answer (.ack [0x66#8, 0x00#8, 0x8E#8])] } : State).phase =
      .waitBus ∧ Config.default.wf = true := by decide

theorem witness_LateAnswerIsDiscarded_ready :
    (offered (.answer .nak)).phase = .ready ∧ (offered (.answer .nak)).inputs = .answer .nak :: [] ∧
    (completeBare .ok measuring).phase = .ready ∧ (completeBare .ok measuring).inputs = [] ∧
    (completeBare .ok measuring).done = true := by decide

theorem witness_DoneMarksEveryCompletion :
    (∃ t, step (offered (.request 0x0000#16)) = .next t ∧ t.done = true) ∧
    (∃ t, step (offered (.request 0x0005#16)) = .next t ∧ t.done = false) := ⟨⟨_, rfl, rfl⟩, ⟨_, rfl, rfl⟩⟩

theorem witness_ResultsAreValidOnlyAfterTheirRequest :
    (after (step (waiting State.reset .readStatus (.ack [0x04#8, 0x00#8, 0x02#8])))).map
      (fun t => (t.done, t.status, t.res.st0)) = some (true, some 0#4, some 0x04#8) := by decide +kernel

/-- Every result register can be read where a request left a value (V14, V15). -/
theorem witness_ResultsAreValidOnlyAfterTheirRequest_reads :
    ((after (step (waiting State.reset .readStatus (.ack [0x04#8, 0x00#8, 0x02#8])))).map
      (fun t => [t.res.raw.isSome, t.res.st0.isSome, t.res.st1.isSome, t.res.heater.isSome])) =
      some [true, true, true, true] ∧
    ((after (step (waiting State.reset .readId
        (.ack [0x01#8, 0x02#8, 0x03#8, 0x04#8, 0x05#8, 0x06#8, 0x07#8, 0x08#8, 0xD0#8])))).map
      (fun t => t.res.id.isSome)) = some true := by decide +kernel

/-- The host reads the temperature of DOC0's scenario B, the exact rational (E7, V10). -/
theorem test_hostRead_temp :
    (after (step (waiting State.reset .ssTempHighStretch (.ack [0x66#8, 0x00#8, 0x8E#8])))).map
      (fun t => (t.res.temp, (hostRead .resTemp t).toOption)) =
      some (some (6355 / 257), some (.temp (6355 / 257))) := by decide +kernel

theorem witness_HostReadsTheControlRegisters : (completeBare .busError State.reset).status = some 1#4 := by decide

theorem witness_MeasurementErrorIsNeverRaised :
    ∃ t, step { State.reset with status := some 3#4 } = .next t ∧ t.status = some 3#4 := ⟨_, rfl, rfl⟩

theorem witness_MeasurementErrorIsNeverRaised_identity : Config.default.tempRound = .identity := by decide

theorem witness_SessionIsWrittenOnlyByItsThreeRequests :
    (∃ t, step (waiting State.reset .perStartMps1High (.ack [])) = .next t ∧ t.session ≠ .idle) ∧
    (∃ t, step { measuring with inputs := [.reset] } = .next t ∧ t.session ≠ measuring.session) :=
  ⟨⟨_, rfl, by decide⟩, ⟨_, rfl, by decide⟩⟩

theorem witness_ErrorsArePreciseForTheBlock :
    ∃ t, step (waiting measuring .softReset .nak) = .next t ∧ t.done = true ∧ t.status ≠ some 0#4 :=
  ⟨_, rfl, rfl, by decide⟩

/-- A 6-byte single-shot frame in a configuration that does not check its second word. -/
def sixBytes (more : List Byte) : State :=
  waiting (State.resetWith { checkedSix with verifyWord1 := false }) .ssTempHighStretch
    (.ack (0x66#8 :: 0x00#8 :: 0x8E#8 :: more))

theorem witness_SecondWordIsNeverExposed :
    (sixBytes [1#8, 2#8, 3#8]).cfg.verifyWord1 = false ∧
    (sixBytes [1#8, 2#8, 3#8]).txnL = some (.writeRead 0x48#7 [0x2C#8, 0x06#8] 6) ∧
    sixBytes [4#8, 5#8, 6#8] =
      { sixBytes [1#8, 2#8, 3#8] with inputs := [.answer (.ack [0x66#8, 0x00#8, 0x8E#8, 4#8, 5#8, 6#8])] } ∧
    (after (exec .ssTempHighStretch (sixBytes [1#8, 2#8, 3#8]))).isSome = true ∧
    (after (exec .ssTempHighStretch (sixBytes [4#8, 5#8, 6#8]))).isSome = true := by
  decide +kernel

theorem witness_OneTransactionForEachRequest :
    (∃ t, step (offered (.request 0x000A#16)) = .next t ∧ t.phase = .waitBus) ∧
    (∃ t, step (offered (.request 0x0003#16)) = .next t ∧ t.phase = .ready) ∧
    (∃ t, step (waiting State.reset .readId .nak) = .next t) ∧
    (∃ t, step State.reset = .next t) := ⟨⟨_, rfl, rfl⟩, ⟨_, rfl, rfl⟩, ⟨_, rfl⟩, ⟨_, rfl⟩⟩

theorem witness_TwoStepsRunARequest :
    ({ State.reset with inputs := [.request (encode .readId), .answer .nak] } : State).cfg.wf = true ∧
    Admits (Instr.op .readId) State.reset.session ∧
    Failure (txnOf Config.default .readId) .nak ∧
    ¬ Failure (txnOf Config.default .heaterOn) (.ack []) :=
  ⟨by decide, (fun _ h => nomatch h), trivial, fun h => h rfl⟩

/-- A coherent state in the middle of a request. -/
theorem coherent_waiting (a : Answer) : Coherent (waiting State.reset .readId a) where
  txn := by simp [waiting, issue]
  req := by simp [waiting, issue]
  owned := by simp [waiting, issue]
  waiting := fun _ => ⟨.readId, rfl, rfl, rfl⟩
  frame := by intro f h; cases h
  status := by intro c h; cases h
  results := .inl rfl
  done := by intro h; cases h

theorem witness_EveryStepKeepsTheBlockCoherent :
    Coherent (waiting State.reset .readId .nak) ∧ ∃ t, step (waiting State.reset .readId .nak) = .next t :=
  ⟨coherent_waiting .nak, ⟨_, rfl⟩⟩

theorem witness_CoherentBlockNeverStops :
    Coherent (waiting State.reset .readId .nak) ∧ (waiting State.reset .readId .nak).cfg.wf = true :=
  ⟨coherent_waiting .nak, by decide⟩

theorem witness_BusLogAlternates :
    LogInStep (waiting State.reset .readId .nak) ∧
    (∀ rest, nextInput .waitBus (waiting State.reset .readId .nak).inputs ≠ some (.reset, rest)) ∧
    ∃ t, step (waiting State.reset .readId .nak) = .next t :=
  ⟨⟨rfl, (fun h => nomatch h), fun _ => ⟨rfl, _, rfl, rfl⟩⟩, (fun _ h => nomatch h), ⟨_, rfl⟩⟩

/-- A reset in READY meets the hypotheses too. -/
theorem witness_BusLogAlternates_reset :
    LogInStep (offered .reset) ∧ (offered .reset).phase = .ready ∧ ∃ t, step (offered .reset) = .next t :=
  ⟨⟨rfl, fun _ => rfl, (fun h => nomatch h)⟩, rfl, ⟨_, rfl⟩⟩

end Sys2Proof.Tests
end

/-! # Scope: which steps stop, and what a completion leaves in the result registers (R9, R145, R160, R222, R223)

Lemmas that say once how the shared operations answer, forwards (for every state, not only those that go on), and the
three statements of the family that follow from them. -/

namespace Sys2Proof.Machine

/-! ## The outcome of a step under an admitted configuration -/

/-- Every request is read back from its own word (R77, R86). -/
@[simp] theorem decode_encode (i : Instr) : decode (encode i) = .ok i := by cases i <;> rfl

theorem runs_next (t : State) : Runs (.next t) := ⟨t, rfl⟩

theorem Runs.ne_refused {o : Result} (h : Runs o) (r : Refusal) : o ≠ .refused r := by
  obtain ⟨t, rfl⟩ := h
  nofun

/-- A configuration that fails R9 is refused, whatever the inputs (R9). -/
theorem step_refused_of_not_wf {s : State} (h : s.cfg.wf = false) : step s = .refused .configIllFormed := by
  simp [step, cycle, h]

/-- In an admitted configuration a step goes on by itself, or is the acceptance of a word in READY, or is the return
to the request in REQ_L in WAIT_BUS (R146, R160). -/
theorem step_of_wf {s : State} (h : s.cfg.wf = true) :
    Runs (step s) ∨
    (∃ w rest, s.phase = .ready ∧ step s = acceptWord exec w { s with inputs := rest }) ∨
    (s.phase = .waitBus ∧ step s = resume exec s) := by
  simp only [step, cycle, h, Bool.true_eq_false, if_false]
  cases hn : nextInput s.phase s.inputs with
  | none => exact .inl (runs_next _)
  | some p =>
    obtain ⟨x, rest⟩ := p
    cases x with
    | reset => exact .inl (runs_next _)
    | request w =>
      cases hp : s.phase with
      | ready => exact .inr (.inl ⟨w, rest, rfl, rfl⟩)
      | waitBus => exact absurd (hp ▸ hn) nextInput_waitBus_ne_request
    | answer a =>
      cases hp : s.phase with
      | ready => exact .inl (runs_next _)
      | waitBus => exact .inr (.inr ⟨rfl, rfl⟩)

/-- In READY every request word is accepted or rejected with a code: the step goes on (R160, R230). -/
theorem acceptWord_runs (w : Word) {s : State} (hp : s.phase = .ready) : Runs (acceptWord exec w s) := by
  unfold acceptWord
  cases decode w with
  | error e => exact runs_next _
  | ok i => exact ⟨_, exec_ready i hp⟩

/-- The answer step waits, or faults on a missing transaction, or finishes the request on the validated answer. -/
theorem answerStep_eq (finish : Answer → State → Result) (s : State) :
    answerStep finish s = .next (idle s) ∨
    (s.txnL = none ∧ answerStep finish s = .fault .noTransaction) ∨
    (∃ a rest x, s.txnL = some x ∧ answerStep finish s = finish (validate x a) (takeAnswered a rest s)) := by
  unfold answerStep
  cases takeAnswer s with
  | none => exact .inl rfl
  | some p =>
    cases s.txnL with
    | none => exact .inr (.inl ⟨rfl, rfl⟩)
    | some x => exact .inr (.inr ⟨p.1, p.2, x, rfl, rfl⟩)

/-- With a transaction in flight the answer step goes on when the request's rule does. -/
theorem answerStep_runs {finish : Answer → State → Result} {s : State} {x : Txn} (hx : s.txnL = some x)
    (h : ∀ a rest, Runs (finish (validate x a) (takeAnswered a rest s))) : Runs (answerStep finish s) := by
  obtain hw | ⟨hnone, -⟩ | ⟨a, rest, y, hy, he⟩ := answerStep_eq finish s
  · exact ⟨_, hw⟩
  · cases hx.symm.trans hnone
  · cases hx.symm.trans hy
    exact he ▸ h a rest

theorem answerStep_ne_refused {finish : Answer → State → Result} {r : Refusal} (h : ∀ a u, finish a u ≠ .refused r)
    (s : State) : answerStep finish s ≠ .refused r := by
  obtain hw | ⟨-, hf⟩ | ⟨a, rest, x, -, he⟩ := answerStep_eq finish s
  · rw [hw]; nofun
  · rw [hf]; nofun
  · rw [he]; exact h _ _

theorem finishWrite_runs (transition : Session → Session) (a : Answer) (s : State) :
    Runs (finishWrite transition a s) := by
  cases a <;> exact runs_next _

/-- finish_read goes on when the checks and the decoding have a value on the bytes of an Ack (R161). -/
theorem finishRead_runs {spans : Config → List Span} {dec : Config → List Byte → Except Fault Results} {a : Answer}
    {s : State} (h : ∀ r, a = .ack r →
      (∃ ok, checkSpans (spans s.cfg) r = .ok ok) ∧ ∃ written, dec s.cfg r = .ok written) :
    Runs (finishRead spans dec a s) := by
  cases a with
  | nak => exact runs_next _
  | ack r =>
    obtain ⟨⟨ok, hc⟩, written, hd⟩ := h r rfl
    cases ok <;> simp only [finishRead, hc, hd] <;> exact runs_next _

/-- finish_read can fault, but it refuses nothing. -/
theorem finishRead_ne_refused (spans : Config → List Span) (dec : Config → List Byte → Except Fault Results)
    (a : Answer) (s : State) (r : Refusal) : finishRead spans dec a s ≠ .refused r := by
  cases a with
  | nak => nofun
  | ack q =>
    simp only [finishRead]
    rcases checkSpans (spans s.cfg) q with e | _ | _
    · nofun
    · nofun
    · cases dec s.cfg q <;> nofun

/-! ## The frames of a read request have every byte its rule reads (R60, R145) -/

/-- A span whose indices lie inside a frame of n bytes. -/
def Span.Fits (n : Nat) (sp : Span) : Prop := sp.start ≤ sp.stop ∧ sp.stop ≤ n ∧ sp.check < n

theorem verify_total {f : List Byte} {start stop : Nat} (expected : Byte) (h : start ≤ stop ∧ stop ≤ f.length) :
    ∃ ok, verify f start stop expected = .ok ok := by
  simp [verify, compute, h]

/-- The checks have a value when every span lies in the frame. -/
theorem checkSpans_total {spans : List Span} {f : List Byte} (h : ∀ sp ∈ spans, sp.Fits f.length) :
    ∃ ok, checkSpans spans f = .ok ok := by
  induction spans with
  | nil => exact ⟨true, rfl⟩
  | cons sp rest ih =>
    obtain ⟨hsp, hrest⟩ := List.forall_mem_cons.mp h
    obtain ⟨hstart, hstop, hcheck⟩ := hsp
    obtain ⟨ok, hv⟩ := verify_total f[sp.check] ⟨hstart, hstop⟩
    simp only [checkSpans, List.getElem?_eq_getElem hcheck, hv]
    cases ok with
    | false => exact ⟨false, rfl⟩
    | true => exact ih hrest

theorem tempSpans_fit (c : Config) {n : Nat} (h : n = 3 ∨ n = 6) : ∀ sp ∈ tempSpans c n, sp.Fits n := by
  intro sp hsp
  simp only [tempSpans, List.mem_cons] at hsp
  obtain rfl | hsp := hsp
  · simp only [Span.Fits]; omega
  · split at hsp
    next h6 =>
      obtain rfl := List.mem_singleton.mp hsp
      simp [Span.Fits, h6.1]
    next => cases hsp

theorem decodeTemp_total (c : Config) {f : List Byte} (h : 2 ≤ f.length) : ∃ r, decodeTemp c f = .ok r := by
  match f, h with
  | _ :: _ :: _, _ => exact ⟨_, rfl⟩

theorem decodeStatus_total (c : Config) {f : List Byte} (h : 2 ≤ f.length) : ∃ r, decodeStatus c f = .ok r := by
  match f, h with
  | _ :: _ :: _, _ => exact ⟨_, rfl⟩

theorem decodeId_total (c : Config) {f : List Byte} (h : 8 ≤ f.length) : ∃ r, decodeId c f = .ok r := by
  match f, h with
  | _ :: _ :: _ :: _ :: _ :: _ :: _ :: _ :: _, _ => exact ⟨_, rfl⟩

/-- The read length by operation (R124). -/
theorem readLen_of_op (c : Config) (i : Instr) :
    (i.op = .ssTemp → readLen c i = c.ssLen) ∧ (i.op = .perRead → readLen c i = c.perLen) ∧
    (i.op = .readId → readLen c i = 9) ∧ (i.op = .readStatus → readLen c i = 3) := by
  cases i <;> simp [Instr.op, readLen]

/-- On a frame of the request's read length, the checks and the decoding of its own rule have a value (R60). -/
theorem readShape_total {c : Config} {i : Instr} {spans : Config → List Span}
    {dec : Config → List Byte → Except Fault Results} {f : List Byte} (hc : c.wf = true)
    (hshape : readShape i.op = some (spans, dec)) (hlen : f.length = readLen c i) :
    (∃ ok, checkSpans (spans c) f = .ok ok) ∧ ∃ r, dec c f = .ok r := by
  obtain ⟨hss, hper⟩ := lengths_of_wf hc
  obtain ⟨lenSs, lenPer, lenId, lenStatus⟩ := readLen_of_op c i
  cases hop : i.op <;> rw [hop] at hshape <;> cases hshape
  case ssTemp =>
    rw [lenSs hop] at hlen
    exact ⟨checkSpans_total (hlen ▸ tempSpans_fit c hss), decodeTemp_total c (by omega)⟩
  case perRead =>
    rw [lenPer hop] at hlen
    exact ⟨checkSpans_total (hlen ▸ tempSpans_fit c hper), decodeTemp_total c (by omega)⟩
  case readId =>
    rw [lenId hop] at hlen
    exact ⟨checkSpans_total (by simp [Span.Fits, hlen]), decodeId_total c (by omega)⟩
  case readStatus =>
    rw [lenStatus hop] at hlen
    exact ⟨checkSpans_total (by simp [Span.Fits, hlen]), decodeStatus_total c (by omega)⟩

/-- A validated Ack of a read request carries the bytes of its read length (R145). -/
theorem validate_txnOf_ack_length {c : Config} {i : Instr}
    {shape : (Config → List Span) × (Config → List Byte → Except Fault Results)} {a : Answer} {r : List Byte}
    (hc : c.wf = true) (hshape : readShape i.op = some shape) (h : validate (txnOf c i) a = .ack r) :
    r.length = readLen c i := by
  obtain ⟨⟨op, htxn⟩, -⟩ := txnOf_read hc hshape
  obtain ⟨-, ⟨addr, w, n, hx, hn⟩ | ⟨addr, w, hx, -⟩⟩ := validate_ack h
  · cases htxn.symm.trans hx
    exact hn
  · cases htxn.symm.trans hx

/-- The answer step of the request in progress goes on, whatever the transport answers (R145, R146). -/
theorem exec_runs_of_inProgress {i : Instr} {s : State} (hc : s.cfg.wf = true) (hp : s.phase = .waitBus)
    (h : InProgress i s) : Runs (exec i s) := by
  obtain ⟨-, htxn, -⟩ := h
  rw [exec_waitBus i hp]
  cases hshape : readShape i.op with
  | none => exact answerStep_runs htxn fun a rest => finishWrite_runs _ _ _
  | some shape =>
    exact answerStep_runs htxn fun a rest => finishRead_runs fun r hv =>
      readShape_total hc hshape (validate_txnOf_ack_length hc hshape hv)

/-- Settles O52: in READY every input has an answer, and in WAIT_BUS coherence says which request is in progress, whose
transaction admits only frames that its rule can read. -/
theorem coherentBlockNeverStops : Obligations.CoherentBlockNeverStops := by
  unfold Obligations.CoherentBlockNeverStops
  intro s hs hc
  obtain hrun | ⟨w, rest, hp, he⟩ | ⟨hp, he⟩ := step_of_wf hc
  · exact hrun
  · exact he ▸ acceptWord_runs w hp
  · obtain ⟨i, hi⟩ := hs.waiting hp
    have hresume : resume exec s = exec i s := by
      obtain ⟨hreq, -, -⟩ := hi
      simp [resume, hreq]
    exact he ▸ hresume ▸ exec_runs_of_inProgress hc hp hi

/-! ## The refusal of ill-formed configurations (R9) -/

/-- No meaning refuses: it accepts, or its answer step goes on or faults. -/
theorem exec_ne_refused (i : Instr) (s : State) (r : Refusal) : exec i s ≠ .refused r := by
  cases hp : s.phase with
  | ready => rw [exec_ready i hp]; nofun
  | waitBus =>
    rw [exec_waitBus i hp]
    cases readShape i.op with
    | none => exact answerStep_ne_refused (fun a u => (finishWrite_runs _ a u).ne_refused r) s
    | some shape => exact answerStep_ne_refused (fun a u => finishRead_ne_refused _ _ a u r) s

theorem resume_ne_refused (s : State) (r : Refusal) : resume exec s ≠ .refused r := by
  unfold resume
  split
  next => nofun
  next w _ =>
    split
    next i _ => exact exec_ne_refused i s r
    next => nofun

/-- The configuration check is the only source of the refusal, and the step always makes it. -/
theorem step_refused_iff (s : State) : step s = .refused .configIllFormed ↔ s.cfg.wf = false := by
  refine ⟨fun h => ?_, step_refused_of_not_wf⟩
  by_contra hwf
  obtain hrun | ⟨w, rest, hp, he⟩ | ⟨-, he⟩ := step_of_wf (Bool.eq_true_of_not_eq_false hwf)
  · exact hrun.ne_refused _ h
  · exact (acceptWord_runs w (s := { s with inputs := rest }) hp).ne_refused _ (he ▸ h)
  · exact resume_ne_refused s _ (he ▸ h)

theorem allDistinct_iff_nodup (ws : List Word) : allDistinct ws = true ↔ ws.Nodup := by
  induction ws with
  | nil => simp [allDistinct]
  | cons w ws ih =>
    simp only [allDistinct, Bool.and_eq_true, ih, List.nodup_cons, List.all_eq_true, bne_iff_ne]
    exact and_congr_left fun _ => ⟨fun h hw => h w hw rfl, fun h v hv e => h (e ▸ hv)⟩

theorem mem_instrAll (i : Instr) : i ∈ Instr.all := by cases i <;> decide

theorem nodup_instrAll : Instr.all.Nodup := by decide

/-- The two requests have no wire opcode in common. -/
def OpcodesDiffer (c : Config) (i j : Instr) : Prop :=
  ∀ op, opcode c i = some op → ∀ op', opcode c j = some op' → op ≠ op'

theorem OpcodesDiffer.symm {c : Config} {i j : Instr} (h : OpcodesDiffer c i j) : OpcodesDiffer c j i :=
  fun op hj op' hi => (h op' hi op hj).symm

/-- R9(a) over the requests: two of them never have the same wire opcode. -/
theorem opcodesDistinct_iff (c : Config) :
    c.opcodesDistinct = true ↔ ∀ i j, i ≠ j → OpcodesDiffer c i j := by
  have hsymm : Std.Symm (OpcodesDiffer c) := ⟨fun _ _ => OpcodesDiffer.symm⟩
  calc c.opcodesDistinct = true
    _ ↔ (Instr.all.filterMap (opcode c)).Nodup := allDistinct_iff_nodup _
    _ ↔ Instr.all.Pairwise (OpcodesDiffer c) := List.pairwise_filterMap
    _ ↔ ∀ i j, i ≠ j → OpcodesDiffer c i j := by
      rw [← nodup_instrAll.pairwise_coe]
      exact ⟨fun h i j => h (mem_instrAll i) (mem_instrAll j), fun h i _ j _ => h i j⟩

/-- Settles O15: the step refuses exactly when Config.wf is false, and each of its checks is the negation of one
disjunct. -/
theorem illFormedConfigurationIsRefused : Obligations.IllFormedConfigurationIsRefused := by
  unfold Obligations.IllFormedConfigurationIsRefused
  intro s
  have hopcodes : s.cfg.opcodesDistinct = false ↔
      ∃ i j op, i ≠ j ∧ opcode s.cfg i = some op ∧ opcode s.cfg j = some op := by
    rw [← Bool.not_eq_true, opcodesDistinct_iff]
    simp [OpcodesDiffer]
  have haddrs : s.cfg.addrsDiffer = false ↔ s.cfg.devAddr = s.cfg.gcAddr := by simp [Config.addrsDiffer]
  have hlengths : s.cfg.lengthsLegal = false ↔
      ¬ (s.cfg.ssLen = 3 ∨ s.cfg.ssLen = 6) ∨ ¬ (s.cfg.perLen = 3 ∨ s.cfg.perLen = 6) := by
    simp [Config.lengthsLegal, imp_iff_not_or]
  rw [step_refused_iff, Config.wf, Bool.and_eq_false_iff, Bool.and_eq_false_iff, or_assoc, hopcodes, haddrs, hlengths]

/-! ## What a completion leaves in the result registers (R163 to R172, R222, R223) -/

/-- The result registers that hold a value are ones that a request of the operation writes (R180 to R185). -/
structure WrittenBy (op : Op) (r : Results) : Prop where
  raw    : r.raw ≠ none → op ∈ [Op.ssTemp, .perRead, .readStatus]
  temp   : r.temp ≠ none → op ∈ [Op.ssTemp, .perRead]
  status : r.st0 ≠ none ∨ r.st1 ≠ none ∨ r.heater ≠ none → op ∈ [Op.readStatus]
  id     : r.id ≠ none → op ∈ [Op.readId]

theorem decodeTemp_ok {c : Config} {f : List Byte} {r : Results} (h : decodeTemp c f = .ok r) :
    r = { Results.bottom with raw := r.raw, temp := r.temp } := by
  unfold decodeTemp at h
  split at h <;> cases h
  rfl

theorem decodeStatus_ok {c : Config} {f : List Byte} {r : Results} (h : decodeStatus c f = .ok r) :
    r = { Results.bottom with raw := r.raw, st0 := r.st0, st1 := r.st1, heater := r.heater } := by
  unfold decodeStatus at h
  split at h <;> cases h
  rfl

theorem decodeId_ok {c : Config} {f : List Byte} {r : Results} (h : decodeId c f = .ok r) :
    r = { Results.bottom with id := r.id } := by
  unfold decodeId at h
  split at h <;> cases h
  rfl

/-- What the decoding of a read request writes belongs to its operation. -/
theorem readShape_writtenBy {op : Op} {spans : Config → List Span} {dec : Config → List Byte → Except Fault Results}
    {c : Config} {f : List Byte} {r : Results} (hshape : readShape op = some (spans, dec)) (h : dec c f = .ok r) :
    WrittenBy op r := by
  cases op <;> cases hshape
  case ssTemp => rw [decodeTemp_ok h]; constructor <;> simp [Results.bottom]
  case perRead => rw [decodeTemp_ok h]; constructor <;> simp [Results.bottom]
  case readId => rw [decodeId_ok h]; constructor <;> simp [Results.bottom]
  case readStatus => rw [decodeStatus_ok h]; constructor <;> simp [Results.bottom]

/-- A step that leaves DONE asserted is a completion: it leaves every result register at ⊥, or it is the OK completion
of the read request in REQ_L and leaves what that request writes (R222, R223). -/
theorem step_done_res {s t : State} (h : step s = .next t) (hdone : t.done = true) :
    t.res = Results.bottom ∨
    (t.status = some 0#4 ∧ ∃ w i, s.reqL = some w ∧ decode w = .ok i ∧ WrittenBy i.op t.res) := by
  obtain ⟨-, ⟨-, rfl⟩ | ⟨rest, -, rfl⟩ | ⟨w, rest, hp, -, ha⟩ | ⟨a, rest, -, -, rfl⟩ |
    ⟨a, rest, w, i, hp, -, hreq, hdec, hx⟩⟩ := step_cases h
  · cases hdone
  · cases hdone
  · obtain ⟨i, -, rfl⟩ | ⟨-, rfl | rfl⟩ := acceptWord_next (s := { s with inputs := rest }) hp ha
    · obtain ⟨-, he⟩ | ⟨-, he⟩ := accept_cases i { s with inputs := rest } <;> rw [he] at hdone ⊢
      · cases hdone
      · exact .inl (completeBare_res _ _)
    · exact .inl (completeBare_res _ _)
    · exact .inl (completeBare_res _ _)
  · cases hdone
  · obtain ⟨-, rfl⟩ | ⟨a, rest, x, -, -, ⟨-, rfl⟩ | ⟨r, spans, dec, -, -, -, rfl⟩ |
      ⟨r, spans, dec, written, -, hshape, -, hd, rfl⟩ | ⟨r, -, -, rfl⟩⟩ := exec_waitBus_next hp hx
    · cases hdone
    · exact .inl (completeBare_res _ _)
    · exact .inl (completeBare_res _ _)
    · exact .inr ⟨rfl, w, i, hreq, hdec, readShape_writtenBy hshape hd⟩
    · exact .inl (completeBare_res _ _)

theorem readValue_eq_noValue_iff {α : Type} (r : HostReg) (wrap : α → HostValue) (v : Option α) :
    v = none ↔ readValue r wrap v = .error (.noValue r) := by
  cases v <;> simp [readValue]

theorem readValue_of_eq_some {α : Type} (r : HostReg) (wrap : α → HostValue) {o : Option α} (v : α) (h : o = some v) :
    readValue r wrap o = .ok (wrap v) := by
  rw [h]; rfl

/-- Settles O42: a completion leaves what its request wrote or nothing, and a host read of a register is the read of an
Option. -/
theorem resultsAreValidOnlyAfterTheirRequest : Obligations.ResultsAreValidOnlyAfterTheirRequest := by
  unfold Obligations.ResultsAreValidOnlyAfterTheirRequest
  refine ⟨fun s t h hdone => ?_, fun s => ?_, fun s => ?_⟩
  · obtain hbot | ⟨hok, w, i, hreq, hdec, hw⟩ := step_done_res h hdone
    · refine ⟨fun _ => hbot, fun ops hops => ?_⟩
      simp [hbot, Results.bottom] at hops
    · refine ⟨fun hne => absurd hok hne, fun ops hops => ⟨w, i, hreq, hdec, ?_⟩⟩
      obtain ⟨hv, rfl⟩ | ⟨hv, rfl⟩ | ⟨hv, rfl⟩ | ⟨hv, rfl⟩ := hops
      · exact hw.raw hv
      · exact hw.temp hv
      · exact hw.status hv
      · exact hw.id hv
  · exact ⟨readValue_eq_noValue_iff _ _ _, readValue_eq_noValue_iff _ _ _, readValue_eq_noValue_iff _ _ _,
      readValue_eq_noValue_iff _ _ _, readValue_eq_noValue_iff _ _ _, readValue_eq_noValue_iff _ _ _,
      readValue_eq_noValue_iff _ _ _⟩
  · exact ⟨readValue_of_eq_some _ _, readValue_of_eq_some _ _, readValue_of_eq_some _ _, readValue_of_eq_some _ _,
      readValue_of_eq_some _ _, readValue_of_eq_some _ _⟩

end Sys2Proof.Machine

/-! # State: what each step writes of the registers of 10_state.md, and what it keeps (R22 to R31, R34, R222, R223)

What a step can do is flattened here once, into the relation StepTo over next states; the statements of the family are
case analyses of it. -/

namespace Sys2Proof.Machine

/-! ## What a step can do, flattened -/

theorem transitionOf_eq_sessionAfter (op : Op) (ses : Session) : transitionOf op ses = Spec.sessionAfter op ses := by
  cases op <;> rfl

theorem readShape_eq_none_iff (op : Op) : readShape op = none ↔ op ∉ Spec.reads := by
  cases op <;> simp [readShape, Spec.reads]

theorem mem_reads_of_readShape {op : Op}
    {shape : (Config → List Span) × (Config → List Byte → Except Fault Results)}
    (h : readShape op = some shape) : op ∈ Spec.reads := by
  by_contra hr
  rw [(readShape_eq_none_iff op).mpr hr] at h
  cases h

/-- The states in which the taken answer a completes a request: after a failed transaction, after a frame that fails
its checks, after one that passes them, and after an acknowledged write (R161, R162). -/
inductive CompletesBy (i : Instr) (s : State) (a : Answer) (rest : List Input) : State → Prop
  | busError : CompletesBy i s a rest (completeBare .busError (takeAnswered a rest s))
  | checksumError {x : Txn} {r : List Byte}
      {shape : (Config → List Span) × (Config → List Byte → Except Fault Results)}
      (htxn : s.txnL = some x) (hvalid : validate x a = .ack r) (hshape : readShape i.op = some shape) :
      CompletesBy i s a rest (completeBare .checksumError { takeAnswered a rest s with frame := some r })
  | readOk {x : Txn} {r : List Byte} {spans : Config → List Span}
      {dec : Config → List Byte → Except Fault Results} {written : Results}
      (htxn : s.txnL = some x) (hvalid : validate x a = .ack r) (hshape : readShape i.op = some (spans, dec))
      (hcheck : checkSpans (spans s.cfg) r = .ok true) (hdec : dec s.cfg r = .ok written) :
      CompletesBy i s a rest (complete .ok written { takeAnswered a rest s with frame := some r })
  | writeOk (hwrite : i.op ∉ Spec.reads) :
      CompletesBy i s a rest
        (completeBare .ok { takeAnswered a rest s with session := Spec.sessionAfter i.op s.session })

/-- In WAIT_BUS a request waits, or the answer it takes completes it (R146). -/
theorem exec_waitBus_completesBy {i : Instr} {s t : State} (hp : s.phase = .waitBus) (h : exec i s = .next t) :
    (takeAnswer s = none ∧ t = idle s) ∨
    ∃ a rest, takeAnswer s = some (a, rest) ∧ CompletesBy i s a rest t := by
  obtain hwait | ⟨a, rest, x, ha, hx, ⟨-, rfl⟩ | ⟨r, spans, dec, hv, hs, -, rfl⟩ |
    ⟨r, spans, dec, written, hv, hs, hc, hd, rfl⟩ | ⟨r, -, hs, rfl⟩⟩ := exec_waitBus_next hp h
  · exact .inl hwait
  · exact .inr ⟨a, rest, ha, .busError⟩
  · exact .inr ⟨a, rest, ha, .checksumError hx hv hs⟩
  · exact .inr ⟨a, rest, ha, .readOk hx hv hs hc hd⟩
  · rw [transitionOf_eq_sessionAfter]
    exact .inr ⟨a, rest, ha, .writeOk ((readShape_eq_none_iff _).mp hs)⟩

/-- The next states of a step, by what the outside agents offer (R146, R160, R250, R251). -/
inductive StepTo (s : State) : State → Prop
  | waits (hnone : nextInput s.phase s.inputs = none) : StepTo s (idle s)
  | lateAnswer {a : Answer} {rest : List Input} (hp : s.phase = .ready) (hin : s.inputs = .answer a :: rest) :
      StepTo s (idle { s with inputs := rest })
  | reset {rest : List Input} (hreset : nextInput s.phase s.inputs = some (.reset, rest)) :
      StepTo s (blockReset { s with inputs := rest })
  | issues {w : Word} {rest : List Input} (i : Instr) (hp : s.phase = .ready) (hin : s.inputs = .request w :: rest)
      (hadmits : stateOk i.op s.session = true) : StepTo s (issue i { s with inputs := rest })
  | turnsAway {w : Word} {rest : List Input} {code : Code} (hp : s.phase = .ready)
      (hin : s.inputs = .request w :: rest) (hcode : code ∈ [Code.invalidArgument, .protocolStateError]) :
      StepTo s (completeBare code { s with inputs := rest })
  | completes {w : Word} {i : Instr} {a : Answer} {rest : List Input} {t : State} (hp : s.phase = .waitBus)
      (hanswer : nextInput .waitBus s.inputs = some (.answer a, rest)) (hreq : s.reqL = some w)
      (hdec : decode w = .ok i) (hby : CompletesBy i s a rest t) : StepTo s t

theorem step_stepTo {s t : State} (h : step s = .next t) : StepTo s t := by
  obtain ⟨-, ⟨hn, rfl⟩ | ⟨rest, hn, rfl⟩ | ⟨w, rest, hp, hin, ha⟩ | ⟨a, rest, hp, hin, rfl⟩ |
    ⟨a, rest, w, i, hp, hn, hreq, hdec, hx⟩⟩ := step_cases h
  · exact .waits hn
  · exact .reset hn
  · obtain ⟨i, -, rfl⟩ | ⟨-, rfl | rfl⟩ := acceptWord_next (s := { s with inputs := rest }) hp ha
    · obtain ⟨hok, he⟩ | ⟨-, he⟩ := accept_cases i { s with inputs := rest } <;> rw [he]
      · exact .issues i hp hin hok
      · exact .turnsAway hp hin (by simp)
    · exact .turnsAway hp hin (by simp)
    · exact .turnsAway hp hin (by simp)
  · exact .lateAnswer hp hin
  · have htake : takeAnswer s = some (a, rest) := takeAnswer_eq (hp ▸ hn)
    obtain ⟨hnone, -⟩ | ⟨b, rest', hb, hby⟩ := exec_waitBus_completesBy hp hx
    · cases htake.symm.trans hnone
    · cases htake.symm.trans hb
      exact .completes hp hn hreq hdec hby

/-- Every completion by an answer releases the bus and asserts DONE with a STATUS; the configuration stays, and the
log and the inputs show the one answer taken (R34, R146, R222). -/
structure IsCompletion (s : State) (a : Answer) (rest : List Input) (t : State) : Prop where
  cfg      : t.cfg = s.cfg
  phase    : t.phase = .ready
  busOwned : t.busOwned = false
  done     : t.done = true
  status   : t.status ≠ none
  busLog   : t.busLog = s.busLog ++ [.answer a]
  inputs   : t.inputs = rest

theorem CompletesBy.isCompletion {i : Instr} {s t : State} {a : Answer} {rest : List Input}
    (h : CompletesBy i s a rest t) : IsCompletion s a rest t := by
  cases h <;> constructor <;> simp

/-! ## The configuration (R31) -/

theorem step_cfg {s t : State} (h : step s = .next t) : t.cfg = s.cfg := by
  cases step_stepTo h with
  | completes _ _ _ _ hby => exact hby.isCompletion.cfg
  | _ => rfl

theorem accept_cfg (i : Instr) (s : State) : (accept i s).cfg = s.cfg := by
  obtain ⟨-, he⟩ | ⟨-, he⟩ := accept_cases i s <;> rw [he] <;> rfl

theorem exec_cfg {i : Instr} {s t : State} (h : exec i s = .next t) : t.cfg = s.cfg := by
  cases hp : s.phase with
  | ready =>
    obtain rfl : accept i s = t := Host.Outcome.next.inj (exec_ready i hp ▸ h)
    exact accept_cfg i s
  | waitBus =>
    obtain ⟨-, rfl⟩ | ⟨a, rest, -, hby⟩ := exec_waitBus_completesBy hp h
    · rfl
    · exact hby.isCompletion.cfg

/-- Settles O16: no next state of a step or of a request has another configuration, and neither has block reset. -/
theorem configurationIsConstant : Obligations.ConfigurationIsConstant := by
  unfold Obligations.ConfigurationIsConstant
  exact ⟨fun _ _ => step_cfg, fun _ _ _ => exec_cfg, blockReset_cfg⟩

/-! ## SESSION (R22, R174) -/

/-- The operations whose transition moves SESSION, and where to (R174). -/
theorem sessionAfter_ne {op : Op} {ses : Session} (h : Spec.sessionAfter op ses ≠ ses) :
    (op = .perStart ∧ Spec.sessionAfter op ses = .periodicMeasuring) ∨
    ((op = .perEnd ∨ op = .softReset) ∧ Spec.sessionAfter op ses = .idle) := by
  cases op <;> simp [Spec.sessionAfter] at h ⊢

/-- A completion that moves SESSION is the OK completion of a write (R161, R162). -/
theorem CompletesBy.session_ne {i : Instr} {s t : State} {a : Answer} {rest : List Input}
    (h : CompletesBy i s a rest t) (hne : t.session ≠ s.session) :
    i.op ∉ Spec.reads ∧ t.status = some 0#4 ∧ t.session = Spec.sessionAfter i.op s.session := by
  cases h with
  | writeOk hwrite => exact ⟨hwrite, rfl, rfl⟩
  | _ => exact absurd rfl hne

/-- Settles O45: of what a step can do, only block reset and the OK completion of a write can move SESSION. -/
theorem sessionIsWrittenOnlyByItsThreeRequests : Obligations.SessionIsWrittenOnlyByItsThreeRequests := by
  unfold Obligations.SessionIsWrittenOnlyByItsThreeRequests
  intro s t h hne
  cases step_stepTo h with
  | reset hreset => exact .inl ⟨_, hreset, rfl⟩
  | completes hp _ hreq hdec hby =>
    obtain ⟨-, hok, hses⟩ := hby.session_ne hne
    have hmoves := sessionAfter_ne (hses ▸ hne)
    exact .inr ⟨_, _, hp, hreq, hdec, hby.isCompletion.done, hok, hses ▸ hmoves⟩
  | _ => exact absurd rfl hne

/-! ## Coherence (R23 to R28, R34, R222, R223) -/

/-- A step in which nothing happens to a coherent block, whatever is left at the port. -/
theorem Coherent.idle {s : State} (h : Coherent s) (rest : List Input) :
    Coherent (Machine.idle { s with inputs := rest }) :=
  { h with done := nofun }

theorem blockReset_coherent (s : State) : Coherent (blockReset s) := by
  constructor <;> simp

/-- An issue makes its own request the one in progress; FRAME, STATUS and the results stay (R144). -/
theorem Coherent.issue {s : State} (h : Coherent s) {i : Instr} (hadmits : stateOk i.op s.session = true)
    (rest : List Input) : Coherent (Machine.issue i { s with inputs := rest }) where
  txn := by simp
  req := nofun
  owned := by simp
  waiting := fun _ => ⟨i, rfl, rfl, hadmits⟩
  frame := h.frame
  status := h.status
  results := h.results
  done := nofun

/-- A frame of one of the three lengths (R8, R26). -/
def FrameLengthLegal (frame : Option (List Byte)) : Prop :=
  ∀ f, frame = some f → f.length = 3 ∨ f.length = 6 ∨ f.length = 9

/-- A completion is coherent whatever it completes, if its frame has a legal length, its code is one that is written,
and its results are decoded from the frame (R222, R223). -/
theorem complete_coherent {code : Code} {written : Results} {s : State} (hframe : FrameLengthLegal s.frame)
    (hcode : code.bits ∈ writtenCodes)
    (hres : code = .ok → written = Results.bottom ∨ ∃ f, s.frame = some f ∧ DecodedFrom s.cfg f written) :
    Coherent (complete code written s) where
  txn := by simp
  req := by simp
  owned := by simp
  waiting := nofun
  frame := hframe
  status := by simpa using hcode
  results := by
    by_cases hok : code = .ok
    · subst hok
      exact (hres rfl).imp_right fun hdecoded => ⟨rfl, hdecoded⟩
    · exact .inl (if_neg hok)
  done := by simp

theorem completeBare_coherent {code : Code} {s : State} (hframe : FrameLengthLegal s.frame)
    (hcode : code.bits ∈ writtenCodes) : Coherent (completeBare code s) :=
  complete_coherent hframe hcode fun _ => .inl rfl

/-- The frame of an answered read request has the request's read length, and that is a legal one (R52, R60, R145). -/
theorem InProgress.frame_length {i : Instr} {s : State} (h : InProgress i s) (hwf : s.cfg.wf = true) {x : Txn}
    {a : Answer} {r : List Byte} {shape : (Config → List Span) × (Config → List Byte → Except Fault Results)}
    (htxn : s.txnL = some x) (hvalid : validate x a = .ack r) (hshape : readShape i.op = some shape) :
    r.length = readLen s.cfg i ∧ FrameLengthLegal (some r) := by
  obtain ⟨-, htxnL, -⟩ := h
  obtain rfl : txnOf s.cfg i = x := Option.some.inj (htxnL.symm.trans htxn)
  have hlen := validate_txnOf_ack_length hwf hshape hvalid
  obtain ⟨-, hlegal⟩ := txnOf_read hwf hshape
  refine ⟨hlen, fun f hf => ?_⟩
  rwa [← Option.some.inj hf, hlen]

/-- What a request's own rule decodes from a frame of its read length is decoded from that frame (R161, R223). -/
theorem decodedFrom_of_readShape {c : Config} {i : Instr} {spans : Config → List Span}
    {dec : Config → List Byte → Except Fault Results} {f : List Byte} {r : Results}
    (hshape : readShape i.op = some (spans, dec)) (hlen : f.length = readLen c i)
    (hcheck : checkSpans (spans c) f = .ok true) (hdec : dec c f = .ok r) : DecodedFrom c f r := by
  obtain ⟨lenSs, lenPer, -, -⟩ := readLen_of_op c i
  cases hop : i.op <;> rw [hop] at hshape <;> cases hshape
  case ssTemp => exact .inl ⟨hdec, by rwa [hlen, lenSs hop]⟩
  case perRead => exact .inl ⟨hdec, by rwa [hlen, lenPer hop]⟩
  case readId => exact .inr (.inr ⟨hdec, hcheck⟩)
  case readStatus => exact .inr (.inl ⟨hdec, hcheck⟩)

/-- The request in progress completes into a coherent state. -/
theorem CompletesBy.coherent {i : Instr} {s t : State} {a : Answer} {rest : List Input} (h : CompletesBy i s a rest t)
    (hs : Coherent s) (hwf : s.cfg.wf = true) (hi : InProgress i s) : Coherent t := by
  cases h with
  | busError => exact completeBare_coherent hs.frame (by decide)
  | checksumError htxn hvalid hshape =>
    obtain ⟨-, hlegal⟩ := hi.frame_length hwf htxn hvalid hshape
    exact completeBare_coherent hlegal (by decide)
  | readOk htxn hvalid hshape hcheck hdec =>
    obtain ⟨hlen, hlegal⟩ := hi.frame_length hwf htxn hvalid hshape
    exact complete_coherent hlegal (by decide) fun _ =>
      .inr ⟨_, rfl, decodedFrom_of_readShape hshape hlen hcheck hdec⟩
  | writeOk => exact completeBare_coherent hs.frame (by decide)

/-- In a coherent WAIT_BUS state the request that REQ_L decodes to is the one in progress (R24, R77). -/
theorem Coherent.inProgress {s : State} (h : Coherent s) (hp : s.phase = .waitBus) {w : Word} {i : Instr}
    (hreq : s.reqL = some w) (hdec : decode w = .ok i) : InProgress i s := by
  obtain ⟨j, hj⟩ := h.waiting hp
  have ⟨hreqj, _⟩ := hj
  obtain rfl : encode j = w := Option.some.inj (hreqj.symm.trans hreq)
  obtain rfl : j = i := Except.ok.inj ((decode_encode j).symm.trans hdec)
  exact hj

/-- Settles O50: each thing a step can do leads from a coherent state to a coherent one. -/
theorem everyStepKeepsTheBlockCoherent : Obligations.EveryStepKeepsTheBlockCoherent := by
  unfold Obligations.EveryStepKeepsTheBlockCoherent
  intro s t hs h
  obtain ⟨hwf, -⟩ := step_cases h
  cases step_stepTo h with
  | waits => exact hs.idle s.inputs
  | lateAnswer => exact hs.idle _
  | reset => exact blockReset_coherent _
  | issues i _ _ hadmits => exact hs.issue hadmits _
  | turnsAway _ _ hcode =>
    refine completeBare_coherent hs.frame ?_
    simp only [List.mem_cons, List.not_mem_nil, or_false] at hcode
    obtain rfl | rfl := hcode <;> decide
  | completes hp _ hreq hdec hby => exact hby.coherent hs hwf (hs.inProgress hp hreq hdec)

/-! ## The frame of the answer step (R26, R29, R146, R161, R162) -/

/-- FRAME changes only by a read request, to the bytes the transport acknowledged (R26). -/
theorem CompletesBy.frame {i : Instr} {s t : State} {a : Answer} {rest : List Input} (h : CompletesBy i s a rest t) :
    t.frame = s.frame ∨ (i.op ∈ Spec.reads ∧ ∃ f, t.frame = some f ∧ a = .ack f) := by
  cases h with
  | busError => exact .inl rfl
  | checksumError _ hvalid hshape => exact .inr ⟨mem_reads_of_readShape hshape, _, rfl, (validate_ack hvalid).1⟩
  | readOk _ hvalid hshape => exact .inr ⟨mem_reads_of_readShape hshape, _, rfl, (validate_ack hvalid).1⟩
  | writeOk => exact .inl rfl

/-- Only a read request leaves a value in a result register (R29). -/
theorem CompletesBy.res_of_write {i : Instr} {s t : State} {a : Answer} {rest : List Input}
    (h : CompletesBy i s a rest t) (hwrite : i.op ∉ Spec.reads) : t.res = Results.bottom := by
  cases h with
  | readOk _ _ hshape => exact absurd (mem_reads_of_readShape hshape) hwrite
  | _ => exact completeBare_res _ _

/-- Settles O32: the answer step waits and writes DONE alone, or completes its request. -/
theorem answerFrame : Obligations.AnswerFrame := by
  unfold Obligations.AnswerFrame
  intro i s t hp h
  obtain ⟨-, rfl⟩ | ⟨a, rest, htake, hby⟩ := exec_waitBus_completesBy hp h
  · refine ⟨rfl, fun _ => rfl, .inl rfl, .inl rfl, fun _ => rfl, fun hready => ?_⟩
    cases hp.symm.trans hready
  · have ht := hby.isCompletion
    refine ⟨ht.cfg, fun hread => ?_, ?_, ?_, fun hwait => ?_, fun _ =>
      ⟨a, rest, htake, ht.inputs, ht.busLog, hby.res_of_write⟩⟩
    · by_contra hne
      obtain ⟨hwrite, -, -⟩ := hby.session_ne hne
      exact hwrite hread
    · exact or_iff_not_imp_left.mpr fun hne => (hby.session_ne hne).2
    · refine hby.frame.imp_right fun ⟨hread, f, hf, ha⟩ => ⟨hread, f, hf, ?_⟩
      rw [ht.busLog, ha]
    · cases ht.phase.symm.trans hwait

/-! ## Bus ownership (R34) -/

/-- Settles O38: an issue takes the bus with WAIT_BUS, a completion and block reset release it with READY, and no other
step touches either. -/
theorem busIsOwnedOnlyWhileWaiting : Obligations.BusIsOwnedOnlyWhileWaiting := by
  unfold Obligations.BusIsOwnedOnlyWhileWaiting
  intro s t hs h
  cases step_stepTo h with
  | waits => exact ⟨hs, nofun⟩
  | lateAnswer => exact ⟨hs, nofun⟩
  | reset => simp
  | issues => simp
  | turnsAway => simp
  | completes _ _ _ _ hby =>
    have ht := hby.isCompletion
    simp [ht.busOwned, ht.phase]

/-! ## DONE and STATUS (R27, R28, R222) -/

/-- Settles O41: a word turned away and an answer taken are the two completions; each other thing a step can do leaves
DONE clear, and its input is neither. -/
theorem doneMarksEveryCompletion : Obligations.DoneMarksEveryCompletion := by
  unfold Obligations.DoneMarksEveryCompletion
  intro s t h
  cases step_stepTo h with
  | waits hnone =>
    refine ⟨⟨nofun, ?_⟩, nofun, fun _ => .inl rfl⟩
    rintro (⟨hp, a, rest, hin⟩ | ⟨hp, -, w, rest, hin⟩)
    · cases (hp ▸ hnone).symm.trans hin
    · simp [hp, hin, nextInput_ready_cons] at hnone
  | lateAnswer hp hin => simp [hp, hin]
  | reset hreset =>
    refine ⟨⟨nofun, ?_⟩, nofun, fun _ => .inr ⟨_, hreset⟩⟩
    rintro (⟨hp, a, rest, hin⟩ | ⟨hp, -, w, rest, hin⟩)
    · cases (hp ▸ hreset).symm.trans hin
    · simp [hp, hin, nextInput_ready_cons] at hreset
  | issues _ hp => simp [hp]
  | turnsAway hp hin => simp [hp, hin]
  | completes hp hanswer _ _ hby =>
    have ht := hby.isCompletion
    simp [ht.done, ht.status, hp, hanswer]

/-! ## What the host reads (R22, R23, R27 to R30, R186) -/

theorem Session.bit_eq_decide (ses : Session) : ses.bit = decide (ses = .periodicMeasuring) := by
  cases ses <;> rfl

theorem Phase.busy_eq_decide (p : Phase) : p.busy = decide (p = .waitBus) := by
  cases p <;> rfl

/-- Settles O43, by the two one-bit encodings and the read of a STATUS that has a value. -/
theorem hostReadsTheControlRegisters : Obligations.HostReadsTheControlRegisters := by
  unfold Obligations.HostReadsTheControlRegisters
  intro s
  rw [← Session.bit_eq_decide, ← Phase.busy_eq_decide]
  exact ⟨rfl, rfl, rfl, readValue_of_eq_some _ _⟩

/-- All that a host read depends on (R30, R237): FRAME, REQ_L, TXN_L, the log and the inputs are not in it. -/
def hostView (s : State) : Session × Phase × Option (BitVec 4) × Bool × Results :=
  (s.session, s.phase, s.status, s.done, s.res)

theorem hostRead_eq_of_hostView_eq {s t : State} (h : hostView s = hostView t) (r : HostReg) :
    hostRead r s = hostRead r t := by
  simp only [hostView, Prod.mk.injEq] at h
  obtain ⟨hses, hphase, hstatus, hdone, hres⟩ := h
  cases r <;> simp only [hostRead, hses, hphase, hstatus, hdone, hres]

/-- What the host sees of a finished read depends on the frame only through the checks and the decoding (R161). -/
theorem finishRead_hostView_eq {spans : Config → List Span} {dec : Config → List Byte → Except Fault Results}
    {r r' : List Byte} {s s' t t' : State} (h : finishRead spans dec (.ack r) s = .next t)
    (h' : finishRead spans dec (.ack r') s' = .next t') (hcfg : s'.cfg = s.cfg) (hses : s'.session = s.session)
    (hcheck : checkSpans (spans s.cfg) r' = checkSpans (spans s.cfg) r) (hdec : dec s.cfg r' = dec s.cfg r) :
    hostView t = hostView t' := by
  simp only [finishRead] at h h'
  rw [hcfg, hcheck, hdec] at h'
  split at h
  next => cases h
  next hc =>
    rw [hc] at h'
    cases h
    cases h'
    simp [hostView, hses]
  next hc =>
    rw [hc] at h'
    cases hd : dec s.cfg r with
    | error e => rw [hd] at h; cases h
    | ok written =>
      rw [hd] at h h'
      cases h
      cases h'
      simp [hostView, hses]

/-- Without VERIFY_WORD1 only the first word of a temperature frame is checked (R59). -/
theorem tempSpans_unverified {c : Config} (h : c.verifyWord1 = false) (n : Nat) : tempSpans c n = [⟨0, 2, 2⟩] := by
  simp [tempSpans, h]

/-- A temperature request checks and decodes a temperature frame (R163, R165). -/
theorem readShape_temp {op : Op} (h : op = .ssTemp ∨ op = .perRead) :
    ∃ len : Config → Nat, readShape op = some (fun c => tempSpans c (len c), decodeTemp) := by
  obtain rfl | rfl := h <;> exact ⟨_, rfl⟩

/-- In WAIT_BUS a read request finishes on the Ack at the port, when that has the expected length (R145, R146). -/
theorem exec_ack {i : Instr} {s : State} {spans : Config → List Span}
    {dec : Config → List Byte → Except Fault Results} {addr : Addr} {w r : List Byte} {n : Nat} {rest : List Input}
    (hshape : readShape i.op = some (spans, dec)) (hp : s.phase = .waitBus)
    (htxn : s.txnL = some (.writeRead addr w n)) (hin : s.inputs = .answer (.ack r) :: rest) (hlen : r.length = n) :
    exec i s = finishRead spans dec (.ack r) (takeAnswered (.ack r) rest s) := by
  have htake : takeAnswer s = some (.ack r, rest) := takeAnswer_eq (by rw [hp, hin]; rfl)
  simp [exec_waitBus i hp, hshape, answerStep, htake, htxn, validate, hlen]

/-- Settles O47: the check and the decoding of a temperature frame look at its first three bytes, and the host sees the
frame through them alone. -/
theorem secondWordIsNeverExposed : Obligations.SecondWordIsNeverExposed := by
  unfold Obligations.SecondWordIsNeverExposed
  rintro i s s' t t' addr w b0 b1 c0 more more' rest r hop hunverified hp htxn hlen hlen' hin hs' h h'
  obtain ⟨len, hshape⟩ := readShape_temp hop
  have hp' : s'.phase = .waitBus := (congrArg State.phase hs').trans hp
  have htxn' : s'.txnL = some (.writeRead addr w 6) := (congrArg State.txnL hs').trans htxn
  rw [exec_ack hshape hp htxn hin (by simp [hlen])] at h
  rw [exec_ack hshape hp' htxn' (congrArg State.inputs hs') (by simp [hlen'])] at h'
  have hcfg : s'.cfg = s.cfg := by rw [hs']
  have hses : s'.session = s.session := by rw [hs']
  refine hostRead_eq_of_hostView_eq (finishRead_hostView_eq h h' hcfg hses ?_ rfl) r
  simp [tempSpans_unverified hunverified, checkSpans_word0]

end Sys2Proof.Machine

/-! # Memory: the bytes of a word, the frames of the temperature and status requests, and the bus log (R10, R54, R59,
R151, R161, R163, R165)

Forward rules for a request whose answer has arrived, said once for every read request, then the statements of the
family from them. -/

namespace Sys2Proof.Machine

/-! ## Byte order (R10, R54, R55) -/

theorem hi8_eq (w : Word) : hi8 w = BitVec.ofNat 8 (w.toNat / 256) := by
  simp [hi8, ← BitVec.toNat_inj, Nat.shiftRight_eq_div_pow]

theorem lo8_eq (w : Word) : lo8 w = BitVec.ofNat 8 (w.toNat % 256) := by
  simp [lo8, ← BitVec.toNat_inj]

theorem be16_toNat (a b : Byte) : (be16 a b).toNat = a.toNat * 256 + b.toNat := by
  have hb : b.toNat < 2 ^ 8 := b.isLt
  rw [be16, BitVec.toNat_append, ← Nat.shiftLeft_add_eq_or_of_lt hb, Nat.shiftLeft_eq]

theorem be16_eq_word (a b : Byte) : be16 a b = Spec.word a b := by
  rw [Spec.word, ← be16_toNat, BitVec.ofNat_toNat, BitVec.setWidth_eq]

theorem be16_hi8_lo8 (w : Word) : be16 (hi8 w) (lo8 w) = w := by
  refine BitVec.eq_of_toNat_eq ?_
  rw [be16_toNat, hi8_eq, lo8_eq, BitVec.toNat_ofNat, BitVec.toNat_ofNat]
  omega

/-- Settles O8, by the two halves of a word as numbers and their reassembly. -/
theorem wordsAreBigEndian : Obligations.WordsAreBigEndian := by
  unfold Obligations.WordsAreBigEndian
  exact ⟨fun w => by rw [opcodeBytes, hi8_eq, lo8_eq], by decide, be16_toNat, be16_hi8_lo8⟩

/-! ## The answer step of a read request, forwards (R146, R161) -/

/-- The transport's answer is taken past the words the host holds, which keep their place (R236). -/
theorem takeAnswer_of_answered {s : State} {t : Txn} {a : Answer} {held : List Word} {rest : List Input}
    (h : Spec.Answered s t a held rest) : takeAnswer s = some (a, Spec.left held rest) := by
  obtain ⟨hp, -, hin⟩ := h
  refine takeAnswer_eq ?_
  rw [hp, hin, nextInput_held]
  rfl

/-- With the answer at the port, the answer step finishes the request on its validated form (R145, R146). -/
theorem answerStep_of_answered (finish : Answer → State → Result) {s : State} {t : Txn} {a : Answer}
    {held : List Word} {rest : List Input} (h : Spec.Answered s t a held rest) :
    answerStep finish s = finish (validate t a) (takeAnswered a (Spec.left held rest) s) := by
  have htake := takeAnswer_of_answered h
  obtain ⟨-, htxn, -⟩ := h
  simp [answerStep, htake, htxn]

/-- A read request finishes on an Ack of the length its transaction expects (R145, R161). -/
theorem exec_of_answered_read {i : Instr} {s : State} {spans : Config → List Span}
    {dec : Config → List Byte → Except Fault Results} {addr : Addr} {w r : List Byte} {n : Nat} {held : List Word}
    {rest : List Input} (hshape : readShape i.op = some (spans, dec)) (hlen : r.length = n)
    (h : Spec.Answered s (.writeRead addr w n) (.ack r) held rest) :
    exec i s = finishRead spans dec (.ack r) (takeAnswered (.ack r) (Spec.left held rest) s) := by
  have hstep := answerStep_of_answered (finishRead spans dec) h
  obtain ⟨hp, -, -⟩ := h
  rw [exec_waitBus i hp, hshape]
  simpa [validate, hlen] using hstep

/-- A frame that passes its checks completes the read request with OK and what its rule decodes (R161, R222). -/
theorem exec_read_ok {i : Instr} {s : State} {spans : Config → List Span}
    {dec : Config → List Byte → Except Fault Results} {addr : Addr} {w r : List Byte} {n : Nat} {held : List Word}
    {rest : List Input} {written : Results} (hshape : readShape i.op = some (spans, dec)) (hlen : r.length = n)
    (h : Spec.Answered s (.writeRead addr w n) (.ack r) held rest) (hcheck : checkSpans (spans s.cfg) r = .ok true)
    (hdec : dec s.cfg r = .ok written) :
    exec i s = .next { Spec.completed 0#4 written (.ack r) (Spec.left held rest) s with frame := some r } := by
  rw [exec_of_answered_read hshape hlen h]
  simp only [finishRead, takeAnswered_cfg, hcheck, hdec]
  rfl

/-- A frame that fails a check completes the read request with CHECKSUM_ERROR and no result (R161, R220). -/
theorem exec_read_checksumError {i : Instr} {s : State} {spans : Config → List Span}
    {dec : Config → List Byte → Except Fault Results} {addr : Addr} {w r : List Byte} {n : Nat} {held : List Word}
    {rest : List Input} (hshape : readShape i.op = some (spans, dec)) (hlen : r.length = n)
    (h : Spec.Answered s (.writeRead addr w n) (.ack r) held rest)
    (hcheck : checkSpans (spans s.cfg) r = .ok false) :
    exec i s =
      .next { Spec.completed 2#4 ⟨none, none, none, none, none, none⟩ (.ack r) (Spec.left held rest) s with
        frame := some r } := by
  rw [exec_of_answered_read hshape hlen h]
  simp only [finishRead, takeAnswered_cfg, hcheck]
  rfl

/-! ## The checks and the decoding of a temperature frame (R59, R180 to R182) -/

/-- The check of both words of a 6-byte frame (R59). -/
theorem checkSpans_word0_word1 (b0 b1 c0 b3 b4 c1 : Byte) :
    checkSpans [⟨0, 2, 2⟩, ⟨3, 5, 5⟩] [b0, b1, c0, b3, b4, c1] =
      .ok (crc8 [b0, b1] == c0 && crc8 [b3, b4] == c1) := by
  have hword0 : verify [b0, b1, c0, b3, b4, c1] 0 2 c0 = .ok (crc8 [b0, b1] == c0) := rfl
  have hword1 : verify [b0, b1, c0, b3, b4, c1] 3 5 c1 = .ok (crc8 [b3, b4] == c1) := rfl
  simp only [checkSpans, List.getElem?_cons_succ, List.getElem?_cons_zero, hword0, hword1]
  cases crc8 [b0, b1] == c0 <;> cases crc8 [b3, b4] == c1 <;> rfl

/-- The second word of a temperature frame, if there is one and it is checked, matches its checksum byte (R59). -/
def Word1Matches (c : Config) (more : List Byte) : Prop :=
  ∀ b3 b4 c1, more = [b3, b4, c1] → c.verifyWord1 = true → crc8 [b3, b4] = c1

/-- The verdict on a temperature frame of 3 or 6 bytes: its first word matches, and its second where that is checked
(R59, R161). -/
theorem checkSpans_tempSpans (c : Config) (b0 b1 c0 : Byte) {more : List Byte}
    (hlen : more.length = 0 ∨ more.length = 3) :
    ∃ ok, checkSpans (tempSpans c (more.length + 3)) (b0 :: b1 :: c0 :: more) = .ok ok ∧
      (ok = true ↔ crc8 [b0, b1] = c0 ∧ Word1Matches c more) := by
  by_cases hboth : more.length + 3 = 6 ∧ c.verifyWord1 = true
  · obtain ⟨h6, hverify⟩ := hboth
    obtain ⟨b3, b4, c1, rfl⟩ := List.length_eq_three.mp (Nat.add_right_cancel h6)
    refine ⟨crc8 [b0, b1] == c0 && crc8 [b3, b4] == c1, ?_, ?_⟩
    · simpa [tempSpans, hverify] using checkSpans_word0_word1 b0 b1 c0 b3 b4 c1
    · simp [Word1Matches, hverify]
  · have hword1 : Word1Matches c more := fun b3 b4 c1 hmore hverify => absurd ⟨by simp [hmore], hverify⟩ hboth
    refine ⟨crc8 [b0, b1] == c0, ?_, ?_⟩
    · rw [tempSpans, if_neg hboth, checkSpans_word0]
    · simp [hword1]

/-- TEMP_ROUND of the model is the spec's (R182). -/
theorem roundTemp_eq_rounded (m : TempRound) (x : Rat) : roundTemp m x = Spec.rounded m x := by
  cases m <;> rfl

/-- A temperature frame decodes to its first word and that word's temperature, whatever follows (R180 to R182, R186). -/
theorem decodeTemp_cons_cons (c : Config) (b0 b1 : Byte) (more : List Byte) :
    decodeTemp c (b0 :: b1 :: more) = .ok (Spec.temperature c b0 b1) := by
  rw [decodeTemp, tempOfRaw, be16_toNat, roundTemp_eq_rounded, be16_eq_word]
  rfl

/-- A temperature request completes with OK on a frame of its length whose checked words match (R163, R165). -/
theorem exec_temp_ok {i : Instr} {s : State} {len : Config → Nat} {addr : Addr} {w : List Byte} {b0 b1 c0 : Byte}
    {more : List Byte} {held : List Word} {rest : List Input}
    (hshape : readShape i.op = some (fun c => tempSpans c (len c), decodeTemp))
    (h : Spec.Answered s (.writeRead addr w (len s.cfg)) (.ack (b0 :: b1 :: c0 :: more)) held rest)
    (hlegal : len s.cfg = 3 ∨ len s.cfg = 6) (hlen : more.length + 3 = len s.cfg) (hword0 : crc8 [b0, b1] = c0)
    (hword1 : Word1Matches s.cfg more) :
    exec i s =
      .next { Spec.completed 0#4 (Spec.temperature s.cfg b0 b1) (.ack (b0 :: b1 :: c0 :: more))
          (Spec.left held rest) s with
        frame := some (b0 :: b1 :: c0 :: more) } := by
  obtain ⟨ok, hcheck, hok⟩ := checkSpans_tempSpans s.cfg b0 b1 c0 (more := more) (by omega)
  obtain rfl : ok = true := hok.mpr ⟨hword0, hword1⟩
  exact exec_read_ok hshape hlen h (hlen ▸ hcheck) (decodeTemp_cons_cons s.cfg b0 b1 _)

/-- Settles O22: the six SS_TEMP requests are temperature requests of length SS_LEN. -/
theorem singleShotCompletes : Obligations.SingleShotCompletes := by
  unfold Obligations.SingleShotCompletes
  intro rep str s addr w b0 b1 c0 more held rest h hlegal hlen hword0 hword1
  have hshape : readShape (Instr.ofSsTemp rep str).op = some (fun c => tempSpans c c.ssLen, decodeTemp) := by
    rw [Instr.op_ofSsTemp]
    rfl
  exact exec_temp_ok hshape h hlegal hlen hword0 hword1

/-- Settles O23: PER_READ is a temperature request of length PER_LEN. -/
theorem periodicReadCompletes : Obligations.PeriodicReadCompletes := by
  unfold Obligations.PeriodicReadCompletes
  intro s addr w b0 b1 c0 more held rest h hlegal hlen hword0 hword1
  exact exec_temp_ok (i := .perRead) (len := Config.perLen) rfl h hlegal hlen hword0 hword1

/-! ## A checked word that does not match (R59, R161, R220) -/

/-- A temperature request completes with CHECKSUM_ERROR on a frame of its length with a checked word that does not
match (R161, R220). -/
theorem exec_temp_checksumError {i : Instr} {s : State} {len : Config → Nat} {addr : Addr} {w : List Byte}
    {b0 b1 c0 : Byte} {more : List Byte} {held : List Word} {rest : List Input}
    (hshape : readShape i.op = some (fun c => tempSpans c (len c), decodeTemp))
    (h : Spec.Answered s (.writeRead addr w (more.length + 3)) (.ack (b0 :: b1 :: c0 :: more)) held rest)
    (hlegal : more.length = 0 ∨ more.length = 3) (hlen : len s.cfg = more.length + 3)
    (hbad : ¬ (crc8 [b0, b1] = c0 ∧ Word1Matches s.cfg more)) :
    exec i s =
      .next { Spec.completed 2#4 ⟨none, none, none, none, none, none⟩ (.ack (b0 :: b1 :: c0 :: more))
          (Spec.left held rest) s with
        frame := some (b0 :: b1 :: c0 :: more) } := by
  obtain ⟨ok, hcheck, hok⟩ := checkSpans_tempSpans s.cfg b0 b1 c0 hlegal
  obtain rfl : ok = false := Bool.eq_false_iff.mpr (mt hok.mp hbad)
  exact exec_read_checksumError hshape rfl h (hlen ▸ hcheck)

/-- Settles O27: a temperature request fails on either checked word, READ_STATUS on its only one. -/
theorem wordChecksumMismatchIsAChecksumError : Obligations.WordChecksumMismatchIsAChecksumError := by
  unfold Obligations.WordChecksumMismatchIsAChecksumError
  intro i s addr w b0 b1 c0 more held rest hop hlen hss hper hstatus h hbad
  have hbadTemp : ¬ (crc8 [b0, b1] = c0 ∧ Word1Matches s.cfg more) := by
    rintro ⟨hword0, hword1⟩
    obtain hne | ⟨b3, b4, c1, hmore, hverify, hne⟩ := hbad
    · exact hne hword0
    · exact hne (hword1 b3 b4 c1 hmore hverify)
  simp only [List.mem_cons, List.not_mem_nil, or_false] at hop
  obtain hop | hop | hop := hop
  · exact exec_temp_checksumError (len := Config.ssLen) (by rw [hop]; rfl) h hlen (hss hop) hbadTemp
  · exact exec_temp_checksumError (len := Config.perLen) (by rw [hop]; rfl) h hlen (hper hop) hbadTemp
  · obtain rfl := hstatus hop
    have hword0 : crc8 [b0, b1] ≠ c0 := hbad.resolve_right (by simp)
    refine exec_read_checksumError (spans := fun _ => [⟨0, 2, 2⟩]) (by rw [hop]; rfl) rfl h ?_
    rw [checkSpans_word0, beq_false_of_ne hword0]

/-! ## The bus log (R65, R151) -/

theorem alternates_append_issue {l : List BusEvent} (t : Txn) (h : alternates l = true) (heven : l.length % 2 = 0) :
    alternates (l ++ [.issue t]) = true := by
  fun_induction alternates l with
  | case1 => rfl
  | case2 => cases heven
  | case3 _ _ rest ih => exact ih h ((Nat.add_mod_right rest.length 2).symm.trans heven)
  | case4 => cases h
  | case5 => cases h

theorem alternates_append_answer {l : List BusEvent} (a : Answer) (h : alternates l = true)
    (hodd : l.length % 2 = 1) : alternates (l ++ [.answer a]) = true := by
  fun_induction alternates l with
  | case1 => cases hodd
  | case2 => rfl
  | case3 _ _ rest ih => exact ih h ((Nat.add_mod_right rest.length 2).symm.trans hodd)
  | case4 => cases h
  | case5 => cases h

/-- In READY the log is in step when it alternates and every issue has its answer. -/
theorem logInStep_of_ready {s : State} (hp : s.phase = .ready) (halt : alternates s.busLog = true)
    (heven : s.busLog.length % 2 = 0) : LogInStep s :=
  ⟨halt, fun _ => heven, fun hwait => nomatch hp.symm.trans hwait⟩

/-- Settles O53: an issue comes in READY after a log of even length, an answer in WAIT_BUS after one of odd length, and
no other step writes the log. -/
theorem busLogAlternates : Obligations.BusLogAlternates := by
  unfold Obligations.BusLogAlternates
  intro s t hlog hnoReset h
  have hs := hlog
  obtain ⟨halt, heven, hodd⟩ := hlog
  cases step_stepTo h with
  | waits => exact hs
  | lateAnswer => exact hs
  | reset hreset =>
    cases hp : s.phase with
    | ready => exact logInStep_of_ready rfl halt (heven hp)
    | waitBus => exact absurd (hp ▸ hreset) (hnoReset hp _)
  | issues i hp =>
    have hlen : s.busLog.length % 2 = 0 := heven hp
    refine ⟨alternates_append_issue _ halt hlen, nofun, fun _ => ⟨?_, _, rfl, by simp⟩⟩
    simp only [issue_busLog, List.length_append, List.length_singleton]
    omega
  | turnsAway hp => exact logInStep_of_ready rfl halt (heven hp)
  | completes hp _ _ _ hby =>
    obtain ⟨hlen, -⟩ := hodd hp
    have ht := hby.isCompletion
    refine logInStep_of_ready ht.phase ?_ ?_ <;> rw [ht.busLog]
    · exact alternates_append_answer _ halt hlen
    · rw [List.length_append, List.length_singleton]
      omega

end Sys2Proof.Machine

/-! # Encoding: the decoder and the encoder as inverses, and what the step does with a decoded word (R70 to R86, R146,
R160)

Each stage of the decoder is inverted once, into the fields that it accepts; a word is determined by its fields. The
acceptance of a request is then issue or turning away, over its own word and transaction. -/

namespace Sys2Proof

/-! ## The operand codes both ways (R71 to R74) -/

theorem Op.ofField_eq_ok_iff {x : BitVec 4} {op : Op} : Op.ofField x = .ok op ↔ x = op.field := by
  revert x
  cases op <;> decide

theorem Rep.ofField_eq_ok_iff {x : BitVec 2} {rep : Rep} : Rep.ofField x = .ok rep ↔ x = rep.field := by
  revert x
  cases rep <;> decide

theorem Rate.ofField_eq_ok_iff {x : BitVec 3} {rate : Rate} : Rate.ofField x = .ok rate ↔ x = rate.field := by
  revert x
  cases rate <;> decide

@[simp] theorem Stretch.field_ofField (x : BitVec 1) : (Stretch.ofField x).field = x := by
  revert x
  decide

theorem exists_eq_ok_iff {ε α : Type} {e : Except ε α} : (∃ a, e = .ok a) ↔ e.isOk = true := by
  cases e <;> simp [Except.isOk, Except.toBool]

/-- The legal OP values are the codes of the eleven operations (R71). -/
theorem RequestFields.opLegal_iff (f : RequestFields) : f.opLegal = true ↔ ∃ op : Op, f.op = op.field := by
  have hcodes : ∀ x : BitVec 4, (x != 0x0#4 && x.ult 0xC#4) = (Op.ofField x).isOk := by decide
  simp only [← Op.ofField_eq_ok_iff, exists_eq_ok_iff, ← hcodes]
  rfl

/-- The legal REP values are the codes of the three repeatabilities (R72). -/
theorem RequestFields.repLegal_iff (f : RequestFields) : f.repLegal = true ↔ ∃ rep : Rep, f.rep = rep.field := by
  have hcodes : ∀ x : BitVec 2, (x != 0b11#2) = (Rep.ofField x).isOk := by decide
  simp only [← Rep.ofField_eq_ok_iff, exists_eq_ok_iff, ← hcodes]
  rfl

/-- The legal RATE values are the codes of the five sample rates (R73). -/
theorem RequestFields.rateLegal_iff (f : RequestFields) : f.rateLegal = true ↔ ∃ rate : Rate, f.rate = rate.field := by
  have hcodes : ∀ x : BitVec 3, x.ule 0b100#3 = (Rate.ofField x).isOk := by decide
  simp only [← Rate.ofField_eq_ok_iff, exists_eq_ok_iff, ← hcodes]
  rfl

/-! ## The word of its fields (R70, R86) -/

/-- The five fields cover the sixteen bits of a word. -/
theorem ofWord_injective {v w : Word} (h : RequestFields.ofWord v = RequestFields.ofWord w) : v = w := by
  simp only [RequestFields.ofWord, RequestFields.mk.injEq, ← BitVec.toNat_inj, BitVec.extractLsb'_toNat,
    Nat.shiftRight_eq_div_pow] at h
  refine BitVec.eq_of_toNat_eq ?_
  omega

theorem encode_ofSsTemp (rep : Rep) (str : Stretch) :
    encode (Instr.ofSsTemp rep str) = assemble .ssTemp rep .mps0_5 str := by
  cases rep <;> cases str <;> rfl

theorem encode_ofPerStart (rate : Rate) (rep : Rep) :
    encode (Instr.ofPerStart rate rep) = assemble .perStart rep rate .disabled := by
  cases rate <;> cases rep <;> rfl

/-! ## What each stage accepts (R77) -/

theorem decodeOp_eq_ok_iff {w : Word} {op : Op} :
    decodeOp w = .ok op ↔ (RequestFields.ofWord w).rsv = 0#6 ∧ (RequestFields.ofWord w).op = op.field := by
  unfold decodeOp
  split
  next hrsv => simp [hrsv, Op.ofField_eq_ok_iff]
  next hrsv => simp [hrsv]

theorem noArgs_eq_ok_iff {i j : Instr} {f : RequestFields} :
    noArgs i f = .ok j ↔ i = j ∧ f.rep = 0#2 ∧ f.rate = 0#3 ∧ f.str = 0#1 := by
  unfold noArgs
  split
  next hzero => simp [hzero]
  next hzero => simp [hzero]

theorem decodeSsTemp_eq_ok_iff {f : RequestFields} {i : Instr} :
    decodeSsTemp f = .ok i ↔
      ∃ rep, f.rep = rep.field ∧ f.rate = 0#3 ∧ i = Instr.ofSsTemp rep (Stretch.ofField f.str) := by
  simp only [← Rep.ofField_eq_ok_iff]
  unfold decodeSsTemp
  cases Rep.ofField f.rep with
  | error e => simp
  | ok rep => by_cases hrate : f.rate = 0#3 <;> simp [hrate, eq_comm]

theorem decodePerStart_eq_ok_iff {f : RequestFields} {i : Instr} :
    decodePerStart f = .ok i ↔
      ∃ rate rep, f.rep = rep.field ∧ f.rate = rate.field ∧ f.str = 0#1 ∧ i = Instr.ofPerStart rate rep := by
  simp only [← Rep.ofField_eq_ok_iff, ← Rate.ofField_eq_ok_iff]
  unfold decodePerStart
  cases Rep.ofField f.rep with
  | error e => simp
  | ok rep =>
    cases Rate.ofField f.rate with
    | error e => simp
    | ok rate => by_cases hstr : f.str = 0#1 <;> simp [hstr, eq_comm]

/-- The word of the request i assembles op with the operands that the fields hold. -/
def AssembledFrom (op : Op) (f : RequestFields) (i : Instr) : Prop :=
  i.op = op ∧ ∃ rep rate str,
    encode i = assemble op rep rate str ∧ f.rep = rep.field ∧ f.rate = rate.field ∧ f.str = str.field

theorem assembledFrom_of_noArgs {i j : Instr} {f : RequestFields}
    (hword : encode i = assemble i.op .low .mps0_5 .disabled) (h : noArgs i f = .ok j) :
    AssembledFrom i.op f j := by
  obtain ⟨rfl, hrep, hrate, hstr⟩ := noArgs_eq_ok_iff.mp h
  exact ⟨rfl, _, _, _, hword, hrep, hrate, hstr⟩

/-- The second stage answers only the request whose word has the fields it was given (R76, R77). -/
theorem assembledFrom_of_decodeFields {op : Op} {f : RequestFields} {i : Instr} (h : decodeFields op f = .ok i) :
    AssembledFrom op f i := by
  cases op with
  | ssTemp =>
    obtain ⟨rep, hrep, hrate, rfl⟩ := decodeSsTemp_eq_ok_iff.mp h
    exact ⟨Instr.op_ofSsTemp _ _, _, _, _, encode_ofSsTemp _ _, hrep, hrate, (Stretch.field_ofField _).symm⟩
  | perStart =>
    obtain ⟨rate, rep, hrep, hrate, hstr, rfl⟩ := decodePerStart_eq_ok_iff.mp h
    exact ⟨Instr.op_ofPerStart _ _, _, _, _, encode_ofPerStart _ _, hrep, hrate, hstr⟩
  | _ => exact assembledFrom_of_noArgs rfl h

/-- A decoded word is the word of its request, and the first stage reads the request's operation. -/
theorem decode_eq_ok {w : Word} {i : Instr} (h : decode w = .ok i) : encode i = w ∧ decodeOp w = .ok i.op := by
  unfold decode at h
  split at h
  next => cases h
  next op hop =>
    obtain ⟨rfl, rep, rate, str, hword, hrep, hrate, hstr⟩ := assembledFrom_of_decodeFields h
    obtain ⟨hrsv, hopField⟩ := decodeOp_eq_ok_iff.mp hop
    refine ⟨ofWord_injective ?_, hop⟩
    rw [hword, ofWord_assemble, ← hopField, ← hrep, ← hrate, ← hstr, ← hrsv]

/-- Settles O10: decoding inverts the encoder on its words, and a decoded word has the fields of its request's word. -/
theorem decodeAndEncodeAgree : Obligations.DecodeAndEncodeAgree := by
  unfold Obligations.DecodeAndEncodeAgree
  intro w i
  constructor
  · intro h
    obtain ⟨hword, -⟩ := decode_eq_ok h
    exact hword
  · rintro rfl
    exact Machine.decode_encode i

/-- Settles O12, by running the decoder on the thirteen words. -/
theorem writtenOutWordsDecode : Obligations.WrittenOutWordsDecode := by
  unfold Obligations.WrittenOutWordsDecode
  decide

/-! ## The words that are accepted (R71 to R76) -/

/-- The word of every request passes the field checks and carries its operation (R71 to R76). -/
theorem requestWord_statement (i : Instr) : Laws.RequestWord.Statement i := by cases i <;> exact ⟨rfl, rfl⟩

theorem exists_decodeOp_eq_ok_iff (w : Word) :
    (∃ op, decodeOp w = .ok op) ↔
      ((RequestFields.ofWord w).rsvZero && (RequestFields.ofWord w).opLegal) = true := by
  simp only [decodeOp_eq_ok_iff, exists_and_left, ← RequestFields.opLegal_iff, Bool.and_eq_true,
    RequestFields.rsvZero, beq_iff_eq]

/-- An operation of neither SS_TEMP nor PER_START has a request without operands, which the second stage answers when
every operand field is zero (R76). -/
theorem exists_decodeFields_eq_ok_of_zero {op : Op} {f : RequestFields} (hss : op ≠ .ssTemp) (hper : op ≠ .perStart)
    (hzero : f.rep = 0#2 ∧ f.rate = 0#3 ∧ f.str = 0#1) : ∃ i, decodeFields op f = .ok i := by
  cases op with
  | ssTemp => exact absurd rfl hss
  | perStart => exact absurd rfl hper
  | _ => exact ⟨_, noArgs_eq_ok_iff.mpr ⟨rfl, hzero⟩⟩

/-- The second stage answers on fields that pass their checks (R72, R73, R76). -/
theorem exists_decodeFields_eq_ok {op : Op} {f : RequestFields} (hop : f.op = op.field) (hrep : f.repLegal = true)
    (hrate : f.rateLegal = true) (hunused : f.unusedZero = true) : ∃ i, decodeFields op f = .ok i := by
  obtain ⟨rep, hrep⟩ := f.repLegal_iff.mp hrep
  obtain ⟨rate, hrate⟩ := f.rateLegal_iff.mp hrate
  cases op with
  | ssTemp =>
    have hzero : f.rate = 0#3 := by simpa [RequestFields.unusedZero, hop, Op.field] using hunused
    exact ⟨_, decodeSsTemp_eq_ok_iff.mpr ⟨rep, hrep, hzero, rfl⟩⟩
  | perStart =>
    have hzero : f.str = 0#1 := by simpa [RequestFields.unusedZero, hop, Op.field] using hunused
    exact ⟨_, decodePerStart_eq_ok_iff.mpr ⟨rate, rep, hrep, hrate, hzero, rfl⟩⟩
  | _ =>
    refine exists_decodeFields_eq_ok_of_zero nofun nofun ?_
    simpa [RequestFields.unusedZero, hop, Op.field, and_assoc] using hunused

theorem exists_decode_eq_ok_of_wf {w : Word} (h : (RequestFields.ofWord w).wf = true) : ∃ i, decode w = .ok i := by
  simp only [RequestFields.wf, Bool.and_eq_true] at h
  obtain ⟨⟨⟨⟨hrsv, hop⟩, hrep⟩, hrate⟩, hunused⟩ := h
  obtain ⟨op, hdecodeOp⟩ := (exists_decodeOp_eq_ok_iff w).mpr (by rw [hrsv, hop]; rfl)
  obtain ⟨-, hopField⟩ := decodeOp_eq_ok_iff.mp hdecodeOp
  simpa only [decode, hdecodeOp, decodeArgs] using exists_decodeFields_eq_ok hopField hrep hrate hunused

/-- Settles O11: a decoded word is the word of a request, whose fields pass every check, and on checked fields both
stages answer. -/
theorem decodeAcceptsTheWellFormedWords : Obligations.DecodeAcceptsTheWellFormedWords := by
  unfold Obligations.DecodeAcceptsTheWellFormedWords
  refine fun w => ⟨⟨?_, exists_decode_eq_ok_of_wf⟩, exists_decodeOp_eq_ok_iff w, fun i h => (decode_eq_ok h).2⟩
  rintro ⟨i, h⟩
  obtain ⟨rfl, -⟩ := decode_eq_ok h
  obtain ⟨hwf, -⟩ := requestWord_statement i
  exact hwf

end Sys2Proof

namespace Sys2Proof.Machine

/-! ## The issue of a request (R144, R160) -/

/-- The state check of R160 is the spec's table of required sessions. -/
theorem stateOk_iff_admits (op : Op) (ses : Session) : stateOk op ses = true ↔ Spec.Admits op ses := by
  cases op <;> simp [stateOk, Spec.Admits, Spec.needs]

/-- In READY an admitted request issues its transaction with its own word in REQ_L (R144, R160). -/
theorem exec_issues {i : Instr} {s : State} (hp : s.phase = .ready) (hadmits : Spec.Admits i.op s.session) :
    exec i s = .next (Spec.issued (encode i) (txnOf s.cfg i) s) := by
  rw [exec_ready i hp, accept, if_pos ((stateOk_iff_admits _ _).mpr hadmits)]
  rfl

/-- A request with an opcode and a read length issues a write-read to the sensor (R54, R124). -/
theorem txnOf_of_readLen_ne_zero {c : Config} {i : Instr} {op : Word} (hop : opcode c i = some op)
    (hlen : readLen c i ≠ 0) : txnOf c i = .writeRead c.devAddr (opcodeBytes op) (readLen c i) := by
  simp [txnOf, txnOfRow, rom, hop, hlen]

/-- A request with an opcode and no bytes to read issues a write to the sensor (R54, R124). -/
theorem txnOf_of_readLen_eq_zero {c : Config} {i : Instr} {op : Word} (hop : opcode c i = some op)
    (hlen : readLen c i = 0) : txnOf c i = .write c.devAddr (opcodeBytes op) := by
  simp [txnOf, txnOfRow, rom, hop, hlen]

theorem encode_ofSsTemp_eq_ssWord (rep : Rep) (str : Stretch) :
    encode (Instr.ofSsTemp rep str) = Spec.ssWord rep str := by
  cases rep <;> cases str <;> rfl

theorem encode_ofPerStart_eq_perWord (rate : Rate) (rep : Rep) :
    encode (Instr.ofPerStart rate rep) = Spec.perWord rate rep := by
  cases rate <;> cases rep <;> rfl

theorem opcode_ofSsTemp (c : Config) (rep : Rep) (str : Stretch) :
    opcode c (Instr.ofSsTemp rep str) = some (Spec.ssOpcode c rep str) := by
  cases rep <;> cases str <;> rfl

theorem opcode_ofPerStart (c : Config) (rate : Rate) (rep : Rep) :
    opcode c (Instr.ofPerStart rate rep) = some (Spec.perOpcode c rate rep) := by
  cases rate <;> cases rep <;> rfl

theorem readLen_ofPerStart (c : Config) (rate : Rate) (rep : Rep) : readLen c (Instr.ofPerStart rate rep) = 0 := by
  cases rate <;> cases rep <;> rfl

/-- Settles O17: no session is required, and the request's word, opcode and read length are those of the tables. -/
theorem singleShotIssues : Obligations.SingleShotIssues := by
  unfold Obligations.SingleShotIssues
  intro rep str s hp hlegal
  obtain ⟨hreadLen, -⟩ := readLen_of_op s.cfg (Instr.ofSsTemp rep str)
  have hlen := hreadLen (Instr.op_ofSsTemp rep str)
  have hadmits : Spec.Admits (Instr.ofSsTemp rep str).op s.session := by
    rw [Instr.op_ofSsTemp]
    nofun
  rw [exec_issues hp hadmits, txnOf_of_readLen_ne_zero (opcode_ofSsTemp _ _ _) (by omega), hlen,
    encode_ofSsTemp_eq_ssWord]

/-- Settles O18: Idle is the session required, and the request's word and opcode are those of the tables. -/
theorem periodicStartIssues : Obligations.PeriodicStartIssues := by
  unfold Obligations.PeriodicStartIssues
  intro rate rep s hp hidle
  have hadmits : Spec.Admits (Instr.ofPerStart rate rep).op s.session := by
    rw [Instr.op_ofPerStart, hidle]
    rintro need ⟨⟩
    rfl
  rw [exec_issues hp hadmits, txnOf_of_readLen_eq_zero (opcode_ofPerStart _ _ _) (readLen_ofPerStart _ _ _),
    encode_ofPerStart_eq_perWord]

/-- Settles O31: acceptance is an issue, which writes no STATUS or result, or a completion without one. -/
theorem acceptanceFrame : Obligations.AcceptanceFrame := by
  unfold Obligations.AcceptanceFrame
  intro i s t hp h
  obtain rfl : accept i s = t := Host.Outcome.next.inj (exec_ready i hp ▸ h)
  obtain ⟨-, he⟩ | ⟨-, he⟩ := accept_cases i s <;> rw [he]
  · exact ⟨rfl, rfl, rfl, rfl, fun _ => ⟨rfl, rfl, rfl⟩, nofun⟩
  · exact ⟨rfl, rfl, rfl, rfl, nofun, fun _ => ⟨rfl, completeBare_res _ _⟩⟩

/-! ## The step on a request word and on an answer (R146, R160) -/

/-- In READY the word at the port is accepted (R160). -/
theorem step_request {s : State} {w : Word} {rest : List Input} (hwf : s.cfg.wf = true) (hp : s.phase = .ready)
    (hin : s.inputs = .request w :: rest) : step s = acceptWord exec w { s with inputs := rest } := by
  simp [step, cycle, hwf, hp, hin, nextInput_ready_cons]

/-- In WAIT_BUS the answer behind the held words goes to the request in REQ_L (R146, R236). -/
theorem step_answer {s : State} {a : Answer} {held : List Word} {rest : List Input} (hwf : s.cfg.wf = true)
    (hp : s.phase = .waitBus) (hin : s.inputs = held.map .request ++ .answer a :: rest) :
    step s = resume exec s := by
  have hnext : nextInput .waitBus s.inputs = some (.answer a, held.map .request ++ rest) := by
    rw [hin, nextInput_held]
    rfl
  simp [step, cycle, hwf, hp, hnext]

/-- Settles O33: a READY step accepts the word, a WAIT_BUS step with an answer resumes REQ_L, and both run what their
word decodes to. -/
theorem stepRunsTheDecodedRequest : Obligations.StepRunsTheDecodedRequest := by
  unfold Obligations.StepRunsTheDecodedRequest
  refine ⟨fun s w i rest hwf hp hin hdec => ?_, fun s w i a held rest hwf hp hin hreq hdec => ?_⟩
  · simp [step_request hwf hp hin, acceptWord, hdec]
  · simp [step_answer hwf hp hin, resume, hreq, hdec]

/-- A rejected word completes with PROTOCOL_STATE_ERROR when its operation is known and needs the other session
(R230). -/
theorem rejectWord_of_not_admits {w : Word} {s : State} {op : Op} (hop : decodeOp w = .ok op)
    (hadmits : ¬ Spec.Admits op s.session) : rejectWord w s = completeBare .protocolStateError s := by
  rw [← stateOk_iff_admits] at hadmits
  simp [rejectWord, hop, hadmits]

/-- A rejected word completes with INVALID_ARGUMENT when its operation is unknown or admitted (R230). -/
theorem rejectWord_of_admits {w : Word} {s : State} (hadmits : ∀ op, decodeOp w = .ok op → Spec.Admits op s.session) :
    rejectWord w s = completeBare .invalidArgument s := by
  unfold rejectWord
  split
  next => rfl
  next op hop => rw [if_pos ((stateOk_iff_admits _ _).mpr (hadmits op hop))]

/-- Settles O35: the step of a word that does not decode is its rejection, and the state check names the code. -/
theorem illegalWordCompletesWithoutATransaction : Obligations.IllegalWordCompletesWithoutATransaction := by
  unfold Obligations.IllegalWordCompletesWithoutATransaction
  intro s w rest hwf hp hin hillegal
  have hstep : step s = .next (rejectWord w { s with inputs := rest }) := by
    rw [step_request hwf hp hin, acceptWord]
    split
    next i hdec => exact absurd ⟨i, hdec⟩ hillegal
    next => rfl
  rw [hstep]
  refine ⟨?_, fun hadmitted => ?_⟩
  · rintro ⟨op, hop, hadmits⟩
    exact congrArg _ (rejectWord_of_not_admits (s := { s with inputs := rest }) hop hadmits)
  · have hadmits : ∀ op, decodeOp w = .ok op → Spec.Admits op s.session := fun op hop =>
      of_not_not fun hn => hadmitted ⟨op, hop, hn⟩
    exact congrArg _ (rejectWord_of_admits (s := { s with inputs := rest }) hadmits)

end Sys2Proof.Machine

/-! # The checksum validator: its shift register, the errors it detects, COMPUTE and VERIFY (R100 to R107)

The register is linear over XOR, so what it says of a changed list is what it says of the change alone, and a shift step
keeps the parity of the register. -/

namespace Sys2Proof.Machine

/-! ## The register as a number (R100) -/

theorem toNat_crcShift (c : Byte) : (crcShift c).toNat = Spec.crcStep c.toNat := by
  have hmsb : c.msb = c.toNat.testBit 7 := BitVec.msb_eq_getLsbD_last c
  have hshift : (c <<< 1).toNat = 2 * c.toNat % 256 := by simp [Nat.shiftLeft_eq, Nat.mul_comm]
  have hfeedback : (c <<< 1 ^^^ 0x31#8).toNat = (2 * c.toNat ^^^ 0x31) % 256 := by
    rw [BitVec.toNat_xor, hshift, Nat.xor_mod_two_pow (n := 8)]
    rfl
  unfold crcShift Spec.crcStep
  rw [hmsb]
  split
  · exact hfeedback
  · exact hshift

/-- A byte step as R100 writes it: the byte XORed in, then eight shift steps. -/
theorem crcByte_eq_iterate (c b : Byte) : crcByte c b = crcShift^[8] (c ^^^ b) := rfl

theorem toNat_crcByte (c b : Byte) : (crcByte c b).toNat = Spec.crcStep^[8] (c.toNat ^^^ b.toNat) := by
  have hsteps : Function.Semiconj BitVec.toNat crcShift^[8] Spec.crcStep^[8] :=
    Function.Semiconj.iterate_right toNat_crcShift 8
  rw [crcByte_eq_iterate, hsteps.eq, BitVec.toNat_xor]

theorem toNat_crcFrom (c : Byte) (d : List Byte) :
    (crcFrom c d).toNat = d.foldl (fun c b => Spec.crcStep^[8] (c ^^^ b.toNat)) c.toNat := by
  induction d generalizing c with
  | nil => rfl
  | cons b d ih => rw [crcFrom, ih, toNat_crcByte, List.foldl_cons]

/-- Settles O1, from the register value 0xFF. -/
theorem crcIsTheShiftRegisterOfItsParameters : Obligations.CrcIsTheShiftRegisterOfItsParameters := by
  unfold Obligations.CrcIsTheShiftRegisterOfItsParameters
  exact toNat_crcFrom 0xFF#8

/-! ## The residue (R106) -/

theorem crc8_append_crc8 (d : List Byte) : crc8 (d ++ [crc8 d]) = 0#8 := by
  rw [crc8_append]
  exact crcByte_self (crc8 d)

/-- Settles O2: the last byte step runs on the register XORed with itself. -/
theorem crcResidueIsZero : Obligations.CrcResidueIsZero := by
  unfold Obligations.CrcResidueIsZero
  exact ⟨crc8_append_crc8, fun a b => crc8_append_crc8 [a, b]⟩

/-! ## Flipped bits in a word group (R102, R107) -/

theorem verify_word (b0 b1 expected : Byte) :
    verify [b0, b1, expected] 0 2 expected = .ok (crc8 [b0, b1] == expected) := rfl

theorem wordGroup_byte0 (a b c : Byte) : (a ++ b ++ c).extractLsb' 16 8 = a := by
  rw [BitVec.extractLsb'_append_eq_of_le (by decide), BitVec.extractLsb'_append_eq_left]

theorem wordGroup_byte1 (a b c : Byte) : (a ++ b ++ c).extractLsb' 8 8 = b := by
  rw [BitVec.extractLsb'_append_eq_of_le (by decide), BitVec.extractLsb'_append_eq_right]

theorem wordGroup_byte2 (a b c : Byte) : (a ++ b ++ c).extractLsb' 0 8 = c := BitVec.extractLsb'_append_eq_right

/-- What flipping the bits of x and y in the two bytes of a word does to its checksum does not depend on the word. -/
theorem crc8_word_xor (a b x y : Byte) : crc8 [a ^^^ x, b ^^^ y] = crc8 [a, b] ^^^ crcFrom 0#8 [x, y] := by
  have hinit : crcByte 0xFF#8 (a ^^^ x) = crcByte 0xFF#8 a ^^^ crcByte 0#8 x := by
    rw [← crcByte_xor, BitVec.xor_zero]
  simp only [crc8, crcFrom, hinit, crcByte_xor]

/-- The bits in which the checksum byte of a flipped word group differs from the checksum of its two data bytes, as a
function of the flips alone. -/
def wordGroupSyndrome (flips : BitVec 24) : Byte :=
  crcFrom 0#8 [flips.extractLsb' 16 8, flips.extractLsb' 8 8] ^^^ flips.extractLsb' 0 8

/-- Flips go unseen exactly when their syndrome is zero. -/
theorem crc8_flipped_word_eq_iff (a b : Byte) (flips : BitVec 24) :
    crc8 [a ^^^ flips.extractLsb' 16 8, b ^^^ flips.extractLsb' 8 8] = crc8 [a, b] ^^^ flips.extractLsb' 0 8 ↔
      wordGroupSyndrome flips = 0#8 := by
  rw [crc8_word_xor, BitVec.xor_right_inj, wordGroupSyndrome, BitVec.xor_eq_zero_iff]

theorem wordGroupSyndrome_xor (f g : BitVec 24) :
    wordGroupSyndrome (f ^^^ g) = wordGroupSyndrome f ^^^ wordGroupSyndrome g := by
  have hcrc (x y u v : Byte) : crcFrom 0#8 [x ^^^ u, y ^^^ v] = crcFrom 0#8 [x, y] ^^^ crcFrom 0#8 [u, v] := by
    have hinit : crcByte 0#8 (x ^^^ u) = crcByte 0#8 x ^^^ crcByte 0#8 u := crcByte_xor 0#8 0#8 x u
    simp only [crcFrom, hinit, crcByte_xor]
  simp only [wordGroupSyndrome, BitVec.extractLsb'_xor, hcrc]
  ac_rfl

/-- The syndromes of the 24 single flips are not zero. -/
theorem wordGroupSyndrome_twoPow_ne_zero : ∀ p : Fin 24, wordGroupSyndrome (BitVec.twoPow 24 p) ≠ 0#8 := by
  decide +kernel

/-- The syndromes of the 24 single flips differ from each other. -/
theorem wordGroupSyndrome_twoPow_injective :
    Function.Injective fun p : Fin 24 => wordGroupSyndrome (BitVec.twoPow 24 p) := by
  decide +kernel

theorem wordGroupSyndrome_one_or_two_flips (p q : Fin 24) :
    wordGroupSyndrome (if p = q then BitVec.twoPow 24 p else BitVec.twoPow 24 p ^^^ BitVec.twoPow 24 q) ≠ 0#8 := by
  split
  next => exact wordGroupSyndrome_twoPow_ne_zero p
  next hpq =>
    rw [wordGroupSyndrome_xor, ne_eq, BitVec.xor_eq_zero_iff]
    exact wordGroupSyndrome_twoPow_injective.ne hpq

/-- Settles O3: a single flip has a syndrome other than zero, and two have the XOR of two different ones. -/
theorem wordGroupDetectsOneOrTwoFlippedBits : Obligations.WordGroupDetectsOneOrTwoFlippedBits := by
  unfold Obligations.WordGroupDetectsOneOrTwoFlippedBits
  intro a b p q flips f f0 f1 f2
  have hbyte0 : f0 = a ^^^ flips.extractLsb' 16 8 := by
    rw [← wordGroup_byte0 a b (crc8 [a, b]), ← BitVec.extractLsb'_xor]
  have hbyte1 : f1 = b ^^^ flips.extractLsb' 8 8 := by
    rw [← wordGroup_byte1 a b (crc8 [a, b]), ← BitVec.extractLsb'_xor]
  have hbyte2 : f2 = crc8 [a, b] ^^^ flips.extractLsb' 0 8 := by
    rw [← wordGroup_byte2 a b (crc8 [a, b]), ← BitVec.extractLsb'_xor]
  have hdiffers : crc8 [f0, f1] ≠ f2 := by
    rw [hbyte0, hbyte1, hbyte2, ne_eq, crc8_flipped_word_eq_iff]
    exact wordGroupSyndrome_one_or_two_flips p q
  rw [verify_word, beq_eq_false_iff_ne.mpr hdiffers]

/-! ## Parity (R107) -/

/-- The number of one bits of a byte. -/
def onesOf (b : Byte) : Nat := ((List.range 8).filter (fun k => b.getLsbD k)).length

/-- The bits on which two lists of bits differ are as many as the ones of both, up to pairs. -/
theorem length_filter_xor_mod_two (f g : Nat → Bool) (l : List Nat) :
    (l.filter (fun k => f k ^^ g k)).length % 2 = ((l.filter f).length + (l.filter g).length) % 2 := by
  induction l with
  | nil => rfl
  | cons k l ih => cases hf : f k <;> cases hg : g k <;> simp [hf, hg] <;> omega

theorem onesOf_xor_mod_two (a b : Byte) : onesOf (a ^^^ b) % 2 = (onesOf a + onesOf b) % 2 := by
  simp only [onesOf, BitVec.getLsbD_xor]
  exact length_filter_xor_mod_two _ _ _

/-- A shift to the left loses the top bit and no other. -/
theorem onesOf_shiftLeft_one (c : Byte) : onesOf (c <<< 1) + c.msb.toNat = onesOf c := by
  have hlow : ∀ k ∈ List.range 7, (c <<< 1).getLsbD (k + 1) = c.getLsbD k := fun k hk => by
    have hk8 : k + 1 < 8 := Nat.succ_lt_succ (List.mem_range.mp hk)
    simp [hk8, -BitVec.getLsbD_eq_getElem]
  have hshifted : onesOf (c <<< 1) = ((List.range 7).filter (fun k => c.getLsbD k)).length := by
    rw [onesOf, List.range_succ_eq_map, List.filter_cons_of_neg (by simp), List.filter_map, List.length_map]
    exact congrArg List.length (List.filter_congr hlow)
  have hwhole : onesOf c = ((List.range 7).filter (fun k => c.getLsbD k)).length + c.msb.toNat := by
    rw [onesOf, List.range_succ, List.filter_append, List.length_append, BitVec.msb_eq_getLsbD_last]
    cases htop : c.getLsbD 7 <;> simp [htop, -BitVec.getLsbD_eq_getElem]
  rw [hshifted, hwhole]

/-- The polynomial's three low ones make up for the carry that a shift step drops. -/
theorem onesOf_crcShift_mod_two (c : Byte) : onesOf (crcShift c) % 2 = onesOf c % 2 := by
  have hshift := onesOf_shiftLeft_one c
  have hfeedback : onesOf (if c.msb then 0x31#8 else 0#8) = 3 * c.msb.toNat := by cases c.msb <;> decide
  rw [crcShift_eq, onesOf_xor_mod_two, hfeedback]
  omega

theorem onesOf_crcByte_mod_two (c b : Byte) : onesOf (crcByte c b) % 2 = (onesOf c + onesOf b) % 2 := by
  simp only [crcByte, onesOf_crcShift_mod_two, onesOf_xor_mod_two]

theorem onesOf_crcFrom_mod_two (c : Byte) (d : List Byte) :
    onesOf (crcFrom c d) % 2 = (onesOf c + (d.map onesOf).sum) % 2 := by
  induction d generalizing c with
  | nil => simp [crcFrom]
  | cons b d ih =>
    have hbyte := onesOf_crcByte_mod_two c b
    rw [crcFrom, ih, List.map_cons, List.sum_cons]
    omega

/-- Settles O4: the register starts with eight ones, so the checksum has the parity of the list. -/
theorem dataAndChecksumHaveEvenParity : Obligations.DataAndChecksumHaveEvenParity := by
  unfold Obligations.DataAndChecksumHaveEvenParity
  intro d
  change ((d ++ [crc8 d]).map onesOf).sum % 2 = 0
  have hinit : onesOf 0xFF#8 = 8 := by decide
  have hparity : onesOf (crc8 d) % 2 = (onesOf 0xFF#8 + (d.map onesOf).sum) % 2 := onesOf_crcFrom_mod_two 0xFF#8 d
  rw [List.map_append, List.sum_append, List.map_singleton, List.sum_singleton]
  omega

/-! ## COMPUTE and VERIFY (R101, R102, R105) -/

theorem compute_of_inRange {bytes : List Byte} {start stop : Nat} (h : start ≤ stop ∧ stop ≤ bytes.length) :
    compute bytes start stop = .ok (crc8 ((bytes.take stop).drop start)) := if_pos h

theorem compute_of_not_inRange {bytes : List Byte} {start stop : Nat} (h : ¬ (start ≤ stop ∧ stop ≤ bytes.length)) :
    compute bytes start stop = .error (.checksumRange start stop bytes.length) := if_neg h

theorem compute_append (before span after : List Byte) :
    compute (before ++ span ++ after) before.length (before.length + span.length) = .ok (crc8 span) := by
  have hspan : ((before ++ span ++ after).take (before.length + span.length)).drop before.length = span := by
    rw [← List.length_append, List.take_left, List.drop_left]
  rw [compute_of_inRange ⟨by omega, by simp⟩, hspan]

theorem compute_empty {bytes : List Byte} {start : Nat} (h : start ≤ bytes.length) :
    compute bytes start start = .ok 0xFF#8 := by
  rw [compute_of_inRange ⟨le_rfl, h⟩, List.drop_take_self, crc8_nil]

/-- Settles O5, by the two branches of COMPUTE. -/
theorem computeIsTheChecksumOfItsSpan : Obligations.ComputeIsTheChecksumOfItsSpan := by
  unfold Obligations.ComputeIsTheChecksumOfItsSpan
  exact ⟨compute_append, fun _ _ _ => compute_of_not_inRange, fun _ _ => compute_empty, by decide +kernel⟩

theorem verify_of_compute_ok {frame : List Byte} {start stop : Nat} {c : Byte} (expected : Byte)
    (h : compute frame start stop = .ok c) : verify frame start stop expected = .ok (decide (c = expected)) := by
  simp [verify, h, beq_eq_decide]

theorem verify_of_compute_error {frame : List Byte} {start stop : Nat} {e : Fault} (expected : Byte)
    (h : compute frame start stop = .error e) : verify frame start stop expected = .error e := by
  simp [verify, h]

/-- Settles O6, by the two answers of COMPUTE. -/
theorem verifyComparesWithTheExpectedByte : Obligations.VerifyComparesWithTheExpectedByte := by
  unfold Obligations.VerifyComparesWithTheExpectedByte
  refine ⟨fun frame start stop expected => ⟨fun c => ?_, fun e => ?_⟩, by decide +kernel⟩
  · exact verify_of_compute_ok expected
  · exact verify_of_compute_error expected

/-- Settles O7, by running the register on the sixteen bytes. -/
theorem singleByteChecksumTable : Obligations.SingleByteChecksumTable := by
  unfold Obligations.SingleByteChecksumTable
  decide

end Sys2Proof.Machine

/-! # The command ROM: its opcodes, and the transactions of the requests with a fixed opcode (R120 to R126)

A sensor command's transaction is determined by its opcode and its read length, so each row of the tables is the one
lemma on the issue of a write, or of a write-read, with the row's own values. -/

namespace Sys2Proof.Machine

/-! ## The opcodes (R121, R125, R126) -/

theorem opcode_eq_none_iff (c : Config) (i : Instr) : opcode c i = none ↔ i = .busReset := by
  cases i <;> simp [opcode]

/-- R9(a) as injectivity: in an admitted configuration a wire opcode has one request. -/
theorem opcode_injective_of_wf {c : Config} (hwf : c.wf = true) {i j : Instr} {op : Word}
    (hi : opcode c i = some op) (hj : opcode c j = some op) : i = j := by
  simp only [Config.wf, Bool.and_eq_true] at hwf
  obtain ⟨⟨hdistinct, -⟩, -⟩ := hwf
  by_contra hne
  exact (opcodesDistinct_iff c).mp hdistinct i j hne op hi op hj rfl

/-- Settles O14: an admitted configuration passed the check R9(a), and the default one is admitted. -/
theorem sensorOpcodesAreDistinct : Obligations.SensorOpcodesAreDistinct := by
  unfold Obligations.SensorOpcodesAreDistinct
  have hdefault : Config.default.wf = true := by decide
  exact ⟨fun c i j op hwf => opcode_injective_of_wf hwf, fun i j op => opcode_injective_of_wf hdefault,
    opcode_eq_none_iff⟩

/-- A sensor command writes its opcode, high byte first (R54, R120). -/
theorem rom_wbytes_of_opcode {c : Config} {i : Instr} {op : Word} (hop : opcode c i = some op) :
    (rom c i).wbytes = opcodeBytes op := by
  simp [rom, hop]

/-- Settles O13, row by row: the opcode does not depend on the configuration, and the bytes are the opcode's. -/
theorem fixedOpcodesAreTheStatedOnes : Obligations.FixedOpcodesAreTheStatedOnes := by
  unfold Obligations.FixedOpcodesAreTheStatedOnes
  intro c row hrow
  have hrow : opcode c row.1 = some row.2.1 ∧ opcodeBytes row.2.1 = row.2.2 := by
    fin_cases hrow <;> exact ⟨rfl, by decide⟩
  obtain ⟨hop, hbytes⟩ := hrow
  exact ⟨hop, (rom_wbytes_of_opcode hop).trans hbytes⟩

/-! ## The issue of the requests with a fixed opcode (R144, R160) -/

/-- In READY an admitted sensor command without response issues the write of its opcode (R124, R144). -/
theorem exec_issues_write (i : Instr) (op : Word) {s : State} (hp : s.phase = .ready)
    (hadmits : Spec.Admits i.op s.session) (hop : opcode s.cfg i = some op) (hlen : readLen s.cfg i = 0) :
    exec i s = .next (Spec.issued (encode i) (.write s.cfg.devAddr (opcodeBytes op)) s) := by
  rw [exec_issues hp hadmits, txnOf_of_readLen_eq_zero hop hlen]

/-- In READY an admitted sensor command with a response issues the write-read of its opcode (R124, R144). -/
theorem exec_issues_writeRead (i : Instr) (op : Word) {s : State} (hp : s.phase = .ready)
    (hadmits : Spec.Admits i.op s.session) (hop : opcode s.cfg i = some op) (hlen : readLen s.cfg i ≠ 0) :
    exec i s =
      .next (Spec.issued (encode i) (.writeRead s.cfg.devAddr (opcodeBytes op) (readLen s.cfg i)) s) := by
  rw [exec_issues hp hadmits, txnOf_of_readLen_ne_zero hop hlen]

/-- Settles O19: PeriodicMeasuring is the session both require, and PER_LEN is not zero. -/
theorem periodicReadAndEndIssue : Obligations.PeriodicReadAndEndIssue := by
  unfold Obligations.PeriodicReadAndEndIssue
  intro s hp hmeasuring hlegal
  have hadmits : ∀ op, Spec.needs op = some .periodicMeasuring → Spec.Admits op s.session := by
    intro op hneeds need hneed
    rw [hmeasuring]
    exact Option.some.inj (hneeds.symm.trans hneed)
  have hlen : readLen s.cfg .perRead ≠ 0 := by
    change s.cfg.perLen ≠ 0
    omega
  exact ⟨exec_issues_writeRead .perRead 0xE000#16 hp (hadmits _ rfl) rfl hlen,
    exec_issues_write .perEnd 0x3093#16 hp (hadmits _ rfl) rfl rfl⟩

/-- Settles O20: no session is required, six issue the write or the write-read of their opcode, and BUS_RESET, which
has none, issues the general call. -/
theorem unconditionalCommandsIssue : Obligations.UnconditionalCommandsIssue := by
  unfold Obligations.UnconditionalCommandsIssue
  intro s hp
  have hadmits : ∀ op, Spec.needs op = none → Spec.Admits op s.session := by
    intro op hneeds need hneed
    cases hneeds.symm.trans hneed
  have hgeneralCall : txnOf s.cfg .busReset = .write s.cfg.gcAddr s.cfg.gcPayload := rfl
  refine ⟨?heaterOn, ?heaterOff, ?readId, ?softReset, ?busReset, ?readStatus, ?clearStatus⟩
  case heaterOn => exact exec_issues_write .heaterOn 0x306D#16 hp (hadmits _ rfl) rfl rfl
  case heaterOff => exact exec_issues_write .heaterOff 0x3066#16 hp (hadmits _ rfl) rfl rfl
  case readId => exact exec_issues_writeRead .readId 0x7029#16 hp (hadmits _ rfl) rfl (by simp [readLen])
  case softReset => exact exec_issues_write .softReset 0x30A2#16 hp (hadmits _ rfl) rfl rfl
  case busReset => exact hgeneralCall ▸ exec_issues hp (hadmits _ rfl)
  case readStatus => exact exec_issues_writeRead .readStatus 0xF32D#16 hp (hadmits _ rfl) rfl (by simp [readLen])
  case clearStatus => exact exec_issues_write .clearStatus 0x3041#16 hp (hadmits _ rfl) rfl rfl

end Sys2Proof.Machine

/-! # The sequencer: failed transactions, waiting, the transactions of the log, and the two steps of a request (R144 to
R149, R160 to R162, R174)

Answer validation is the spec's notion of a failed transaction; with that an answered request has one outcome on a
failure and one on any other answer. What a step appends to the log is read off the relation StepTo. -/

namespace Sys2Proof.Machine

/-! ## The outcome of an answered request (R145, R161, R162) -/

/-- Validation turns exactly the failed transactions into a Nak (R142, R143, R145). -/
theorem validate_eq_nak_iff (x : Txn) (a : Answer) : validate x a = .nak ↔ Spec.Failure x a := by
  cases a with
  | nak => cases x <;> simp [Spec.Failure]
  | ack r => cases x <;> simp [validate, Spec.Failure]

/-- A failed transaction completes any request with BUS_ERROR: SESSION and FRAME stay, and no result
is left (R145, R220). -/
theorem exec_failure {i : Instr} {s : State} {x : Txn} {a : Answer} {held : List Word} {rest : List Input}
    (h : Spec.Answered s x a held rest) (hfail : Spec.Failure x a) :
    exec i s =
      .next (Spec.completed 1#4 ⟨none, none, none, none, none, none⟩ a (Spec.left held rest) s) := by
  have hnak : ∀ finish : Answer → State → Result,
      answerStep finish s = finish .nak (takeAnswered a (Spec.left held rest) s) := fun finish => by
    rw [answerStep_of_answered finish h, (validate_eq_nak_iff x a).mpr hfail]
  obtain ⟨hp, -, -⟩ := h
  rw [exec_waitBus i hp]
  cases readShape i.op with
  | none => exact hnak _
  | some shape => exact hnak _

/-- Settles O26: a failed transaction is validated to a Nak, which both finishing rules turn into BUS_ERROR. -/
theorem failedTransactionIsABusError : Obligations.FailedTransactionIsABusError := by
  unfold Obligations.FailedTransactionIsABusError
  intro i s x a held rest h hfail
  exact exec_failure h hfail

/-- An acknowledged write completes the write-only request with OK and its transition of SESSION (R162, R174). -/
theorem exec_write_ok {i : Instr} {s : State} {addr : Addr} {w : List Byte} {held : List Word} {rest : List Input}
    (hwrite : i.op ∉ Spec.reads) (h : Spec.Answered s (.write addr w) (.ack []) held rest) :
    exec i s =
      .next { Spec.completed 0#4 ⟨none, none, none, none, none, none⟩ (.ack []) (Spec.left held rest) s with
        session := Spec.sessionAfter i.op s.session } := by
  have hfinish := answerStep_of_answered (finishWrite (transitionOf i.op)) h
  obtain ⟨hp, -, -⟩ := h
  rw [exec_waitBus i hp, (readShape_eq_none_iff _).mpr hwrite, hfinish, ← transitionOf_eq_sessionAfter]
  rfl

/-! ## HEATER_ON, HEATER_OFF and CLEAR_STATUS (R167, R168, R173) -/

/-- A write-only request without operands, which any session admits and which leaves SESSION alone. -/
structure PlainWrite (i : Instr) : Prop where
  sole    : ∀ j : Instr, j.op = i.op → j = i
  needs   : Spec.needs i.op = none
  write   : i.op ∉ Spec.reads
  session : ∀ ses, Spec.sessionAfter i.op ses = ses

theorem plainWrite_of_mem {i : Instr} (h : i ∈ [Instr.heaterOn, .heaterOff, .clearStatus]) : PlainWrite i where
  sole j hj := by
    have hall : ∀ i ∈ [Instr.heaterOn, .heaterOff, .clearStatus], ∀ j ∈ Instr.all, j.op = i.op → j = i := by
      decide
    exact hall i h j (mem_instrAll j) hj
  needs := by fin_cases h <;> rfl
  write := by fin_cases h <;> decide
  session := by fin_cases h <;> exact fun _ => rfl

theorem PlainWrite.exec_ok {i : Instr} (hi : PlainWrite i) {s : State} {addr : Addr} {w : List Byte}
    {held : List Word} {rest : List Input} (h : Spec.Answered s (.write addr w) (.ack []) held rest) :
    exec i s =
      .next (Spec.completed 0#4 ⟨none, none, none, none, none, none⟩ (.ack []) (Spec.left held rest) s) := by
  rw [exec_write_ok hi.write h, hi.session]
  rfl

/-- The codes of the operations are distinct (R71). -/
theorem Op.field_injective {o p : Op} (h : o.field = p.field) : o = p :=
  Except.ok.inj ((Op.ofField_eq_ok_iff.mpr rfl).symm.trans (Op.ofField_eq_ok_iff.mpr h))

/-- Of the words with its OP only its own decodes, and any session admits the operation (R77, R230). -/
theorem PlainWrite.step_otherWord {i : Instr} (hi : PlainWrite i) {s : State} {w : Word} {rest : List Input}
    (hwf : s.cfg.wf = true) (hp : s.phase = .ready) (hin : s.inputs = .request w :: rest)
    (hop : (RequestFields.ofWord w).op = i.op.field) (hne : w ≠ encode i) :
    step s = .next (Spec.turnedAway 5#4 { s with inputs := rest }) := by
  have hsameOp : ∀ op, decodeOp w = .ok op → op = i.op := fun op hdec => by
    obtain ⟨-, hfield⟩ := decodeOp_eq_ok_iff.mp hdec
    exact Op.field_injective (hfield.symm.trans hop)
  have hillegal : ¬ ∃ j, decode w = .ok j := by
    rintro ⟨j, hdec⟩
    obtain ⟨hword, hdecOp⟩ := decode_eq_ok hdec
    obtain rfl := hi.sole j (hsameOp _ hdecOp)
    exact hne hword.symm
  obtain ⟨-, hturnedAway⟩ := illegalWordCompletesWithoutATransaction s w rest hwf hp hin hillegal
  refine hturnedAway ?_
  rintro ⟨op, hdec, hrefused⟩
  refine hrefused fun need hneed => ?_
  rw [hsameOp op hdec, hi.needs] at hneed
  cases hneed

/-- Settles O29: each row is a plain write, whose issue is the row's and whose other words do not decode. -/
theorem heaterAndClearStatusRules : Obligations.HeaterAndClearStatusRules := by
  unfold Obligations.HeaterAndClearStatusRules
  intro row s hrow
  have hissues : s.phase = .ready →
      exec row.1 s = .next (Spec.issued row.2.1 (.write s.cfg.devAddr row.2.2.2) s) := by
    intro hp
    obtain ⟨hon, hoff, -, -, -, -, hclear⟩ := unconditionalCommandsIssue s hp
    fin_cases hrow
    exacts [hon, hoff, hclear]
  have hword : encode row.1 = row.2.1 ∧ row.1.op.field = row.2.2.1 := by fin_cases hrow <;> exact ⟨rfl, rfl⟩
  obtain ⟨hword, hfield⟩ := hword
  have hi : PlainWrite row.1 := plainWrite_of_mem (List.mem_map_of_mem (f := Prod.fst) hrow)
  refine ⟨hissues, fun _ _ _ _ => hi.exec_ok, fun _ _ _ _ => exec_failure, fun w rest hwf hp hin hop hne => ?_⟩
  exact hi.step_otherWord hwf hp hin (hop.trans hfield.symm) (hword ▸ hne)

/-! ## Waiting (R147) -/

/-- Words that the host holds are no input of a block in WAIT_BUS (R236). -/
theorem nextInput_waitBus_held (held : List Word) : nextInput .waitBus (held.map .request) = none := by
  simpa using nextInput_held held []

/-- A step without an input that the block can take changes nothing but DONE (R146, R147). -/
theorem step_waits {s : State} (hwf : s.cfg.wf = true) (hnone : nextInput s.phase s.inputs = none) :
    step s = .next (idle s) := by
  simp [step, cycle, hwf, hnone]

/-- A block that can take no input idles for any number of steps. -/
theorem run_waits (n : Nat) {s : State} (hwf : s.cfg.wf = true) (hnone : nextInput s.phase s.inputs = none) :
    Host.Core.run Sys2Proof.core (n + 1) s = .next (idle s) := by
  rw [run_succ (step_waits hwf hnone)]
  induction n with
  | zero => rfl
  | succ n ih =>
    have hidle : step (idle s) = .next (idle s) := step_waits (s := idle s) hwf hnone
    rw [run_succ hidle, ih]

/-! ## What a step appends to the log (R65, R149) -/

/-- Only a READY block that is offered a word issues (R149). -/
theorem step_waitBus_busLog {s t : State} (hp : s.phase = .waitBus) (h : step s = .next t) :
    t.busLog = s.busLog ∨ ∃ a, t.busLog = s.busLog ++ [.answer a] := by
  cases step_stepTo h with
  | completes _ _ _ _ hby => exact .inr ⟨_, hby.isCompletion.busLog⟩
  | issues _ hready => cases hp.symm.trans hready
  | _ => exact .inl rfl

theorem CompletesBy.txnL {i : Instr} {s t : State} {a : Answer} {rest : List Input} (h : CompletesBy i s a rest t) :
    t.txnL = none := by
  cases h <;> rfl

/-- A step in WAIT_BUS keeps the transaction in flight, or ends it with READY (R25, R146). -/
theorem step_waitBus_txnL {s t : State} (hp : s.phase = .waitBus) (h : step s = .next t) :
    (t.phase = .waitBus ∧ t.txnL = s.txnL) ∨ (t.phase = .ready ∧ t.txnL = none) := by
  cases step_stepTo h with
  | waits => exact .inl ⟨hp, rfl⟩
  | reset => exact .inr ⟨rfl, rfl⟩
  | completes _ _ _ _ hby => exact .inr ⟨hby.isCompletion.phase, hby.txnL⟩
  | lateAnswer hready => cases hp.symm.trans hready
  | issues _ hready => cases hp.symm.trans hready
  | turnsAway hready => cases hp.symm.trans hready

/-- Settles O37: with only held words at the port the block idles, and an issue needs READY. -/
theorem blockWaitsAndNeverRepeats : Obligations.BlockWaitsAndNeverRepeats := by
  unfold Obligations.BlockWaitsAndNeverRepeats
  refine ⟨fun s held hwf hp hin => ?_, fun s t hp h => ⟨step_waitBus_busLog hp h, ?_⟩⟩
  · have hnone : nextInput s.phase s.inputs = none := by rw [hp, hin, nextInput_waitBus_held]
    exact ⟨step_waits hwf hnone, fun n => run_waits n hwf hnone⟩
  · obtain ⟨hphase, htxn⟩ | ⟨hphase, htxn⟩ := step_waitBus_txnL hp h
    · simp [hphase, htxn]
    · simp [hphase, htxn]

/-- A word offered in READY is issued, or turned away before the bus (R144, R160, R230). -/
theorem step_request_cases {s t : State} {w : Word} {rest : List Input} (hp : s.phase = .ready)
    (hin : s.inputs = .request w :: rest) (h : step s = .next t) :
    (∃ i, t = issue i { s with inputs := rest }) ∨
    (∃ code ∈ [Code.invalidArgument, .protocolStateError], t = completeBare code { s with inputs := rest }) := by
  have hnext : nextInput s.phase s.inputs = some (.request w, rest) := by rw [hp, hin]; rfl
  cases step_stepTo h with
  | issues i _ hin' =>
    cases hin.symm.trans hin'
    exact .inl ⟨i, rfl⟩
  | turnsAway _ hin' hcode =>
    cases hin.symm.trans hin'
    exact .inr ⟨_, hcode, rfl⟩
  | waits hnone => cases hnext.symm.trans hnone
  | reset hreset => cases hnext.symm.trans hreset
  | lateAnswer _ hin' => cases hin.symm.trans hin'
  | completes hwait => cases hp.symm.trans hwait

/-- Without a word at its port a READY block puts nothing on the bus (R149). -/
theorem step_ready_busLog {s t : State} (hp : s.phase = .ready) (hnone : ∀ w rest, s.inputs ≠ .request w :: rest)
    (h : step s = .next t) : t.busLog = s.busLog := by
  cases step_stepTo h with
  | issues _ _ hin => exact absurd hin (hnone _ _)
  | completes hwait => cases hp.symm.trans hwait
  | _ => rfl

/-- Settles O48: a word offered in READY is the only source of an issue, and it issues once or is turned away. -/
theorem oneTransactionForEachRequest : Obligations.OneTransactionForEachRequest := by
  unfold Obligations.OneTransactionForEachRequest
  refine ⟨fun s t w rest hp hin h => ?_, fun _ _ => step_waitBus_busLog, fun _ _ => step_ready_busLog⟩
  obtain ⟨i, rfl⟩ | ⟨code, hcode, rfl⟩ := step_request_cases hp hin h
  · exact ⟨nofun, fun _ => ⟨_, rfl, rfl⟩⟩
  · refine ⟨fun _ => ⟨rfl, ?_⟩, nofun⟩
    simp only [List.mem_cons, List.not_mem_nil, or_false] at hcode
    obtain rfl | rfl := hcode
    · exact .inr rfl
    · exact .inl rfl

/-! ## The two steps of a request (R146, R160, R174) -/

/-- A read request leaves SESSION as it was (R161, R174). -/
theorem sessionAfter_of_mem_reads {op : Op} (h : op ∈ Spec.reads) (ses : Session) :
    Spec.sessionAfter op ses = ses := by
  by_contra hne
  obtain ⟨rfl, -⟩ | ⟨rfl | rfl, -⟩ := sessionAfter_ne hne <;> simp [Spec.reads] at h

/-- The code and the session that an answered request leaves, by the table of R174. -/
theorem exec_answered_code_session {i : Instr} {s t : State} {x : Txn} {a : Answer} {held : List Word}
    {rest : List Input} (h : Spec.Answered s x a held rest) (ht : exec i s = .next t) :
    (Spec.Failure x a ∧ t.status = some 1#4 ∧ t.session = s.session) ∨
    (¬ Spec.Failure x a ∧ (t.status = some 0#4 ∨ (i.op ∈ Spec.reads ∧ t.status = some 2#4)) ∧
      t.session = Spec.sessionAfter i.op s.session) := by
  have htake := takeAnswer_of_answered h
  obtain ⟨hp, htxn, -⟩ := h
  have hvalidates : ∀ {r}, validate x a = .ack r → ¬ Spec.Failure x a := fun hv => by
    rw [← validate_eq_nak_iff, hv]
    nofun
  obtain ⟨hwait, -⟩ | ⟨b, rest', y, hb, hy, hcases⟩ := exec_waitBus_next hp ht
  · cases htake.symm.trans hwait
  cases htake.symm.trans hb
  cases htxn.symm.trans hy
  obtain ⟨hv, rfl⟩ | ⟨r, spans, dec, hv, hshape, -, rfl⟩ | ⟨r, spans, dec, written, hv, hshape, -, -, rfl⟩ |
    ⟨r, hv, -, rfl⟩ := hcases
  · exact .inl ⟨(validate_eq_nak_iff _ _).mp hv, rfl, rfl⟩
  · have hread := mem_reads_of_readShape hshape
    exact .inr ⟨hvalidates hv, .inr ⟨hread, rfl⟩, (sessionAfter_of_mem_reads hread _).symm⟩
  · have hread := mem_reads_of_readShape hshape
    exact .inr ⟨hvalidates hv, .inl rfl, (sessionAfter_of_mem_reads hread _).symm⟩
  · exact .inr ⟨hvalidates hv, .inl rfl, transitionOf_eq_sessionAfter _ _⟩

/-- The answer at the port completes the request in progress (R145, R146). -/
theorem exec_answered_completes {i : Instr} {s : State} {x : Txn} {a : Answer} {held : List Word}
    {rest : List Input} (h : Spec.Answered s x a held rest) (hwf : s.cfg.wf = true) (hi : InProgress i s) :
    ∃ t, exec i s = .next t ∧ IsCompletion s a (Spec.left held rest) t := by
  have htake := takeAnswer_of_answered h
  obtain ⟨hp, -, -⟩ := h
  obtain ⟨t, ht⟩ := exec_runs_of_inProgress hwf hp hi
  obtain ⟨hwait, -⟩ | ⟨b, rest', hb, hby⟩ := exec_waitBus_completesBy hp ht
  · cases htake.symm.trans hwait
  · cases htake.symm.trans hb
    exact ⟨t, ht, hby.isCompletion⟩

/-- The step that takes an admitted request's own word issues its transaction (R144, R160). -/
theorem step_issues {i : Instr} {s : State} {rest : List Input} (hwf : s.cfg.wf = true) (hp : s.phase = .ready)
    (hadmits : Spec.Admits i.op s.session) (hin : s.inputs = .request (encode i) :: rest) :
    step s = .next (Spec.issued (encode i) (txnOf s.cfg i) { s with inputs := rest }) := by
  obtain ⟨hrun, -⟩ := stepRunsTheDecodedRequest
  rw [hrun s (encode i) i rest hwf hp hin (decode_encode i)]
  exact exec_issues hp hadmits

/-- The step that takes the answer runs the request in progress (R146). -/
theorem step_answered {i : Instr} {s : State} {x : Txn} {a : Answer} {held : List Word} {rest : List Input}
    (h : Spec.Answered s x a held rest) (hwf : s.cfg.wf = true) (hi : InProgress i s) : step s = exec i s := by
  obtain ⟨-, hrun⟩ := stepRunsTheDecodedRequest
  obtain ⟨hp, -, hin⟩ := h
  obtain ⟨hreq, -, -⟩ := hi
  exact hrun s (encode i) i a held rest hwf hp hin hreq (decode_encode i)

/-- Settles O49: the first step issues the request's transaction, and the second finishes it on the answer. -/
theorem twoStepsRunARequest : Obligations.TwoStepsRunARequest := by
  unfold Obligations.TwoStepsRunARequest
  intro i s a rest hwf hp hadmits hin
  have hissue := step_issues hwf hp hadmits hin
  generalize hu : Spec.issued (encode i) (txnOf s.cfg i) { s with inputs := .answer a :: rest } = u at hissue
  have hanswered : Spec.Answered u (txnOf s.cfg i) a [] rest := hu ▸ ⟨rfl, rfl, rfl⟩
  have hi : InProgress i u := hu ▸ ⟨rfl, rfl, (stateOk_iff_admits _ _).mpr hadmits⟩
  have hwfu : u.cfg.wf = true := hu ▸ hwf
  obtain ⟨t, ht, hdone⟩ := exec_answered_completes hanswered hwfu hi
  have hanswer : step u = .next t := (step_answered hanswered hwfu hi).trans ht
  have hrun : Host.Core.run Sys2Proof.core 2 s = .next t := by rw [run_succ hissue, run_succ hanswer, run_zero]
  have hlog : t.busLog = s.busLog ++ [.issue (txnOf s.cfg i), .answer a] := by
    rw [hdone.busLog, ← hu]
    exact List.append_assoc _ _ _
  have hsession : u.session = s.session := hu ▸ rfl
  have hcode := exec_answered_code_session hanswered ht
  rw [hsession] at hcode
  refine ⟨t, hrun, hdone.done, hdone.phase, hdone.inputs, hlog, ?_⟩
  obtain ⟨hfail, hcode⟩ | ⟨hfail, hcode⟩ := hcode
  · exact ⟨fun _ => hcode, fun hno => absurd hfail hno⟩
  · exact ⟨fun hyes => absurd hyes hfail, fun _ => hcode⟩

end Sys2Proof.Machine

/-! # Operations: the acceptance pipeline, the completions of READ_STATUS, READ_ID and the write-only requests, the
words held at a busy port, and the temperature transform (R160 to R187, R236)

The completions are the outcomes of an answered request, taken to the request's own frame and session; the held words
are a change of the inputs alone, with which each part of the answer step commutes. -/

namespace Sys2Proof.Machine

/-! ## The acceptance pipeline (R160, R164 to R166, R230) -/

/-- In READY a request that the session does not admit is turned away with PROTOCOL_STATE_ERROR (R160). -/
theorem exec_turnsAway {i : Instr} {s : State} (hp : s.phase = .ready) (hadmits : ¬ Spec.Admits i.op s.session) :
    exec i s = .next (Spec.turnedAway 4#4 s) := by
  rw [exec_ready i hp, accept, if_neg (mt (stateOk_iff_admits _ _).mp hadmits)]
  rfl

/-- Settles O21: a session other than the required one does not admit the operation. -/
theorem wrongSessionIsAProtocolStateError : Obligations.WrongSessionIsAProtocolStateError := by
  unfold Obligations.WrongSessionIsAProtocolStateError
  intro i s need hp hneeds hne
  exact exec_turnsAway hp fun hadmits => hne (hadmits need hneeds)

/-- A word whose first stage fails is no request's (R77). -/
theorem not_decodes_of_decodeOp_error {w : Word} {e : DecodeError} (h : decodeOp w = .error e) :
    ¬ ∃ i, decode w = .ok i := by
  simp [decode, h]

theorem decode_of_decodeOp {w : Word} {op : Op} (h : decodeOp w = .ok op) : decode w = decodeArgs op w := by
  simp [decode, h]

/-- In READY a word whose operation is known and not admitted is turned away before its arguments are looked at: legal
or not, it completes with PROTOCOL_STATE_ERROR (R160). -/
theorem step_of_not_admits {s : State} {w : Word} {rest : List Input} {op : Op} (hwf : s.cfg.wf = true)
    (hp : s.phase = .ready) (hin : s.inputs = .request w :: rest) (hop : decodeOp w = .ok op)
    (hadmits : ¬ Spec.Admits op s.session) : step s = .next (Spec.turnedAway 4#4 { s with inputs := rest }) := by
  by_cases hlegal : ∃ i, decode w = .ok i
  · obtain ⟨i, hdec⟩ := hlegal
    obtain ⟨-, hop'⟩ := decode_eq_ok hdec
    obtain rfl : i.op = op := Except.ok.inj (hop'.symm.trans hop)
    obtain ⟨hrun, -⟩ := stepRunsTheDecodedRequest
    rw [hrun s w i rest hwf hp hin hdec]
    exact exec_turnsAway hp hadmits
  · obtain ⟨hturnedAway, -⟩ := illegalWordCompletesWithoutATransaction s w rest hwf hp hin hlegal
    exact hturnedAway ⟨op, hop, hadmits⟩

/-- In READY an illegal word whose operation, if it is known, the session admits completes with INVALID_ARGUMENT
(R160, R230). -/
theorem step_of_illegal {s : State} {w : Word} {rest : List Input} (hwf : s.cfg.wf = true) (hp : s.phase = .ready)
    (hin : s.inputs = .request w :: rest) (hillegal : ¬ ∃ i, decode w = .ok i)
    (hadmits : ∀ op, decodeOp w = .ok op → Spec.Admits op s.session) :
    step s = .next (Spec.turnedAway 5#4 { s with inputs := rest }) := by
  obtain ⟨-, hturnedAway⟩ := illegalWordCompletesWithoutATransaction s w rest hwf hp hin hillegal
  exact hturnedAway fun ⟨op, hop, hrefused⟩ => hrefused (hadmits op hop)

/-- Settles O34, stage by stage: a known operation fixes which session check is made, and a word that passes both stages
is its request's own. -/
theorem acceptancePipeline : Obligations.AcceptancePipeline := by
  unfold Obligations.AcceptancePipeline
  intro s w rest hwf hp hin
  refine ⟨fun e hop => ?unknownOp, fun op hop => ⟨step_of_not_admits hwf hp hin hop, fun hadmits =>
    ⟨fun e hargs => ?illegalArgs, fun i hargs => ?issue⟩⟩⟩
  case unknownOp =>
    refine step_of_illegal hwf hp hin (not_decodes_of_decodeOp_error hop) fun op hop' => ?_
    cases hop.symm.trans hop'
  case illegalArgs =>
    refine step_of_illegal hwf hp hin ?_ fun op' hop' => ?_
    · simp [decode_of_decodeOp hop, hargs]
    · cases hop.symm.trans hop'
      exact hadmits
  case issue =>
    obtain ⟨rfl, hop'⟩ := decode_eq_ok ((decode_of_decodeOp hop).trans hargs)
    obtain rfl : op = i.op := Except.ok.inj (hop.symm.trans hop')
    exact step_issues hwf hp hadmits hin

/-! ## The completions of the write-only requests and of READ_STATUS (R162, R172 to R174, R183, R184) -/

/-- Settles O25: on Ack([]) a request without a response frame ends with OK and its transition of SESSION. -/
theorem writeOnlyRequestsComplete : Obligations.WriteOnlyRequestsComplete := by
  unfold Obligations.WriteOnlyRequestsComplete
  intro i s addr w held rest hwrite h
  exact exec_write_ok hwrite h

/-- A status frame decodes to its two bytes, their word and the configured bit (R172, R183, R184). -/
theorem decodeStatus_cons_cons (c : Config) (b0 b1 : Byte) (more : List Byte) :
    decodeStatus c (b0 :: b1 :: more) =
      .ok { raw := some (Spec.word b0 b1), temp := none, st0 := some b0, st1 := some b1, id := none
            heater := some ((if c.heaterByte = 0 then b0 else b1).getLsbD c.heaterBit.val) } := by
  rw [decodeStatus, be16_eq_word]
  rfl

/-- Settles O24: READ_STATUS is a read request whose frame passes its one check and decodes as a status frame. -/
theorem readStatusCompletes : Obligations.ReadStatusCompletes := by
  unfold Obligations.ReadStatusCompletes
  intro s addr w b0 b1 held rest h
  have hcheck : checkSpans [⟨0, 2, 2⟩] [b0, b1, crc8 [b0, b1]] = .ok true := by
    rw [checkSpans_word0, beq_self_eq_true]
  exact exec_read_ok (i := .readStatus) rfl rfl h hcheck (decodeStatus_cons_cons s.cfg b0 b1 _)

/-! ## READ_ID (R169, R185) -/

/-- A frame that is one run and its checksum byte passes its check exactly when they match (R101, R102). -/
theorem checkSpans_run (d : List Byte) (c : Byte) :
    checkSpans [⟨0, d.length, d.length⟩] (d ++ [c]) = .ok (decide (crc8 d = c)) := by
  have hcompute : compute (d ++ [c]) 0 d.length = .ok (crc8 d) := by
    simpa using compute_append [] d [c]
  have hverify := verify_of_compute_ok c hcompute
  have hbyte : (d ++ [c])[d.length]? = some c := by simp
  simp only [checkSpans, hbyte, hverify]
  cases decide (crc8 d = c) <;> rfl

/-- The check of an identification frame is one run over its eight bytes (R169). -/
theorem checkSpans_id (v : Vector Byte 8) (c : Byte) :
    checkSpans [⟨0, 8, 8⟩] (v.toList ++ [c]) = .ok (decide (crc8 v.toList = c)) := by
  simpa using checkSpans_run v.toList c

/-- An identification frame decodes to its first eight bytes in order (R169, R185). -/
theorem decodeId_toList (c : Config) (v : Vector Byte 8) (more : List Byte) :
    decodeId c (v.toList ++ more) = .ok { Results.bottom with id := some v } := by
  obtain ⟨⟨l⟩, hlen⟩ := v
  match l, hlen with
  | [b0, b1, b2, b3, b4, b5, b6, b7], _ => rfl

/-- READ_ID is the only request of its operation (R83). -/
theorem eq_readId_of_op {i : Instr} (h : i.op = .readId) : i = .readId := by
  revert h
  cases i <;> decide

/-- Of the words with READ_ID's OP only its own decodes (R76, R77). -/
theorem not_decodes_of_readId_op {w : Word} (hop : (RequestFields.ofWord w).op = Op.readId.field)
    (hne : w ≠ encode .readId) : ¬ ∃ i, decode w = .ok i := by
  rintro ⟨i, hdec⟩
  obtain ⟨hword, hdecOp⟩ := decode_eq_ok hdec
  obtain ⟨-, hfield⟩ := decodeOp_eq_ok_iff.mp hdecOp
  obtain rfl := eq_readId_of_op (Op.field_injective (hfield.symm.trans hop))
  exact hne hword.symm

/-- Settles O28: the issue and the failure are those of every request, the verdict is the checksum of the one run, and
another word with the OP is illegal while any session admits the operation. -/
theorem readIdentificationRule : Obligations.ReadIdentificationRule := by
  unfold Obligations.ReadIdentificationRule
  refine ⟨fun s hp => ?issue, fun s addr w v c held rest h => ⟨fun hmatch => ?ok, fun hmismatch => ?mismatch⟩,
    fun s x a held rest => exec_failure, fun s w rest hwf hp hin hop hne => ?otherWord, by decide +kernel⟩
  case issue =>
    obtain ⟨-, -, hissue, -⟩ := unconditionalCommandsIssue s hp
    exact hissue
  case ok =>
    have hcheck := checkSpans_id v c
    rw [decide_eq_true hmatch] at hcheck
    exact exec_read_ok (i := .readId) rfl (by simp) h hcheck (decodeId_toList s.cfg v [c])
  case mismatch =>
    have hcheck := checkSpans_id v c
    rw [decide_eq_false hmismatch] at hcheck
    exact exec_read_checksumError (i := .readId) rfl (by simp) h hcheck
  case otherWord =>
    refine step_of_illegal hwf hp hin (not_decodes_of_readId_op hop hne) fun op hdec => ?_
    obtain ⟨-, hfield⟩ := decodeOp_eq_ok_iff.mp hdec
    obtain rfl : op = .readId := Op.field_injective (hfield.symm.trans hop)
    nofun

/-! ## Words held at a busy port (R236) -/

/-- The state with words of the host in front of everything else at the port. -/
def withHeld (held : List Word) (s : State) : State := { s with inputs := held.map .request ++ s.inputs }

/-- In WAIT_BUS the answer behind the held words is the one without them. -/
theorem takeAnswer_withHeld (held : List Word) {s : State} (hp : s.phase = .waitBus) :
    takeAnswer (withHeld held s) = (takeAnswer s).map fun p => (p.1, held.map .request ++ p.2) := by
  simp only [takeAnswer, withHeld, hp, nextInput_held]
  rcases nextInput .waitBus s.inputs with _ | ⟨_ | _ | _, rest⟩ <;> rfl

/-- A request's finishing rule takes held words over to the state it ends in. -/
def KeepsHeld (held : List Word) (finish : Answer → State → Result) : Prop :=
  ∀ a s t, finish a s = .next t → finish a (withHeld held s) = .next (withHeld held t)

theorem finishRead_keepsHeld (spans : Config → List Span) (dec : Config → List Byte → Except Fault Results)
    (held : List Word) : KeepsHeld held (finishRead spans dec) := by
  intro a s t h
  have hcfg : (withHeld held s).cfg = s.cfg := rfl
  obtain ⟨rfl, rfl⟩ | ⟨r, rfl, hcheck, rfl⟩ | ⟨r, written, rfl, hcheck, hdec, rfl⟩ := finishRead_next h
  · rfl
  · simp only [finishRead, hcfg, hcheck]
    rfl
  · simp only [finishRead, hcfg, hcheck, hdec]
    rfl

theorem finishWrite_keepsHeld (transition : Session → Session) (held : List Word) :
    KeepsHeld held (finishWrite transition) := by
  intro a s t h
  obtain ⟨rfl, rfl⟩ | ⟨r, rfl, rfl⟩ := finishWrite_next h <;> rfl

/-- The answer step keeps the held words in front when the request's finishing rule does. -/
theorem answerStep_withHeld {finish : Answer → State → Result} {held : List Word}
    (hfinish : KeepsHeld held finish) {s t : State} (hp : s.phase = .waitBus) (h : answerStep finish s = .next t) :
    answerStep finish (withHeld held s) = .next (withHeld held t) := by
  have htake := takeAnswer_withHeld held hp
  have htxn : (withHeld held s).txnL = s.txnL := rfl
  obtain ⟨hnone, rfl⟩ | ⟨a, rest, x, ha, hx, hdone⟩ := answerStep_next h
  · rw [hnone] at htake
    simp only [answerStep, htake]
    rfl
  · rw [ha] at htake
    simp only [answerStep, htake, htxn, hx]
    exact hfinish _ _ _ hdone

theorem exec_withHeld {i : Instr} (held : List Word) {s t : State} (hp : s.phase = .waitBus)
    (h : exec i s = .next t) : exec i (withHeld held s) = .next (withHeld held t) := by
  rw [exec_waitBus i hp] at h
  rw [exec_waitBus i (s := withHeld held s) hp]
  cases hshape : readShape i.op with
  | none =>
    rw [hshape] at h
    exact answerStep_withHeld (finishWrite_keepsHeld _ held) hp h
  | some shape =>
    rw [hshape] at h
    exact answerStep_withHeld (finishRead_keepsHeld _ _ held) hp h

/-- A reset at the port resets the block (R250). -/
theorem step_of_nextInput_reset {s : State} {rest : List Input} (hwf : s.cfg.wf = true)
    (hnext : nextInput s.phase s.inputs = some (.reset, rest)) :
    step s = .next (blockReset { s with inputs := rest }) := by
  simp [step, cycle, hwf, hnext]

/-- An answer at the port of a WAIT_BUS block runs the request in REQ_L (R146). -/
theorem step_of_nextInput_answer {s : State} {a : Answer} {rest : List Input} {w : Word} {i : Instr}
    (hwf : s.cfg.wf = true) (hp : s.phase = .waitBus) (hnext : nextInput .waitBus s.inputs = some (.answer a, rest))
    (hreq : s.reqL = some w) (hdec : decode w = .ok i) : step s = exec i s := by
  simp [step, cycle, hwf, hp, hnext, resume, hreq, hdec]

/-- Settles O36: the next input is looked for behind the held words, and what the step does with it commutes with
them. -/
theorem busyPortHoldsRequests : Obligations.BusyPortHoldsRequests := by
  unfold Obligations.BusyPortHoldsRequests
  intro s t held hp h
  change step (withHeld held s) = .next (withHeld held t)
  have hnext : nextInput s.phase (withHeld held s).inputs =
      (nextInput s.phase s.inputs).map fun p => (p.1, held.map .request ++ p.2) := by
    rw [hp]
    exact nextInput_held held s.inputs
  obtain ⟨hwf, ⟨hnone, rfl⟩ | ⟨rest, hreset, rfl⟩ | ⟨w, rest, hready, -⟩ | ⟨a, rest, hready, -⟩ |
    ⟨a, rest, w, i, -, hanswer, hreq, hdec, hexec⟩⟩ := step_cases h
  · rw [hnone] at hnext
    exact step_waits (s := withHeld held s) hwf hnext
  · rw [hreset] at hnext
    exact step_of_nextInput_reset (s := withHeld held s) hwf hnext
  · cases hp.symm.trans hready
  · cases hp.symm.trans hready
  · rw [hp, hanswer] at hnext
    rw [step_of_nextInput_answer (s := withHeld held s) hwf hp hnext hreq hdec]
    exact exec_withHeld held hp hexec

/-! ## The temperature transform (R181) -/

theorem tempOfRaw_strictMono {a b : Word} (h : a < b) : tempOfRaw a < tempOfRaw b := by
  have hcodes : (a.toNat : Rat) < b.toNat := Nat.cast_lt.mpr h
  unfold tempOfRaw
  gcongr

theorem tempOfRaw_mem_range (raw : Word) : -45 ≤ tempOfRaw raw ∧ tempOfRaw raw ≤ 130 := by
  have hlow : (0 : Rat) ≤ raw.toNat := Nat.cast_nonneg _
  have hhigh : (raw.toNat : Rat) ≤ 65535 := by exact_mod_cast Nat.le_of_lt_succ raw.isLt
  unfold tempOfRaw
  constructor <;> linarith

/-- One code is 175/65535 = 35/13107 of a degree, where the code does not wrap (R181). -/
theorem tempOfRaw_add_one_sub {raw : Word} (h : raw.toNat < 65535) :
    tempOfRaw (raw + 1) - tempOfRaw raw = 35 / 13107 := by
  have hsucc : (raw + 1).toNat = raw.toNat + 1 := by bv_omega
  unfold tempOfRaw
  rw [hsucc, Nat.cast_succ]
  ring

/-- Settles O9: the transform is affine in the code, with a positive slope. -/
theorem temperatureTransform : Obligations.TemperatureTransform := by
  unfold Obligations.TemperatureTransform
  refine ⟨fun _ => rfl, fun _ _ => tempOfRaw_strictMono, ?_, ?_, tempOfRaw_mem_range,
    fun _ => tempOfRaw_add_one_sub⟩
  · simp [tempOfRaw]
  · norm_num [tempOfRaw]

/-! ## MEASUREMENT_ERROR (R27, R187) -/

/-- The codes that an answer completes a request with (R161, R162, R187). -/
theorem CompletesBy.status {i : Instr} {s t : State} {a : Answer} {rest : List Input} (h : CompletesBy i s a rest t) :
    ∃ code ∈ [Code.ok, .busError, .checksumError], t.status = some code.bits := by
  cases h with
  | busError => exact ⟨.busError, by simp, rfl⟩
  | checksumError => exact ⟨.checksumError, by simp, rfl⟩
  | readOk => exact ⟨.ok, by simp, rfl⟩
  | writeOk => exact ⟨.ok, by simp, rfl⟩

theorem Code.bits_eq_three_iff (code : Code) : code.bits = 3#4 ↔ code = .measurementError := by
  cases code <;> decide

/-- No step writes MEASUREMENT_ERROR (R187). -/
theorem status_of_step_measurementError {s t : State} (h : step s = .next t) (ht : t.status = some 3#4) :
    s.status = some 3#4 := by
  cases step_stepTo h with
  | waits => exact ht
  | lateAnswer => exact ht
  | issues => exact ht
  | reset => cases ht
  | turnsAway _ _ hcode =>
    rw [(Code.bits_eq_three_iff _).mp (Option.some.inj ht)] at hcode
    simp at hcode
  | completes _ _ _ _ hby =>
    obtain ⟨code, hcode, hstatus⟩ := hby.status
    rw [(Code.bits_eq_three_iff _).mp (Option.some.inj (hstatus.symm.trans ht))] at hcode
    simp at hcode

/-- The two bytes of a raw code decode to the code and its temperature, whatever follows (R180 to R182). -/
theorem decodeTemp_hi8_lo8 (c : Config) (raw : Word) (more : List Byte) :
    decodeTemp c (hi8 raw :: lo8 raw :: more) =
      .ok { Results.bottom with raw := some raw, temp := some (Spec.rounded c.tempRound (tempOfRaw raw)) } := by
  rw [decodeTemp, be16_hi8_lo8, roundTemp_eq_rounded]

/-- Settles O44: no completion writes the code 3, and a temperature frame decodes whatever its code. -/
theorem measurementErrorIsNeverRaised : Obligations.MeasurementErrorIsNeverRaised := by
  unfold Obligations.MeasurementErrorIsNeverRaised
  refine ⟨fun s t => status_of_step_measurementError, fun c raw more =>
    ⟨_, decodeTemp_hi8_lo8 c raw more, rfl, rfl, ?_⟩⟩
  intro hidentity
  rw [hidentity]
  rfl

end Sys2Proof.Machine

/-! # Exceptions: what complete(code) writes, and that a completion with an error code is precise (R220 to R224) -/

namespace Sys2Proof.Machine

/-! ## Completion entry (R34, R220, R222) -/

/-- The six codes in the order of R220's table, as STATUS holds them. -/
theorem map_bits_codes :
    [Code.ok, .busError, .checksumError, .measurementError, .protocolStateError, .invalidArgument].map Code.bits =
      [0#4, 1#4, 2#4, 3#4, 4#4, 5#4] := by
  decide

/-- Settles O30: R222's list is the record update that complete makes, with ⊥ in each of the six result registers. -/
theorem completionEntry : Obligations.CompletionEntry := by
  unfold Obligations.CompletionEntry
  exact fun code written s => ⟨rfl, map_bits_codes⟩

/-! ## Precise errors (R22, R223, R224) -/

/-- A completion with a code other than OK leaves SESSION: of what a step can do, block reset asserts no DONE, and an
answer that moves SESSION completes its request with OK. -/
theorem step_session_of_error {s t : State} (h : step s = .next t) (hdone : t.done = true)
    (herror : t.status ≠ some 0#4) : t.session = s.session := by
  cases step_stepTo h with
  | reset => cases hdone
  | completes _ _ _ _ hby =>
    by_contra hne
    obtain ⟨-, hok, -⟩ := hby.session_ne hne
    exact herror hok
  | _ => rfl

/-- Settles O46: SESSION by what a step can do, the result registers because only an OK completion leaves a value. -/
theorem errorsArePreciseForTheBlock : Obligations.ErrorsArePreciseForTheBlock := by
  unfold Obligations.ErrorsArePreciseForTheBlock
  intro s t h hdone herror
  refine ⟨step_session_of_error h hdone herror, ?_⟩
  obtain hbottom | ⟨hok, -⟩ := step_done_res h hdone
  · exact hbottom
  · exact absurd hok herror

end Sys2Proof.Machine

/-! # Reset and hazards: block reset, the late answer it leaves behind, and the reset state (R28, R29, R250, R251) -/

namespace Sys2Proof.Machine

/-! ## Block reset (R250) -/

/-- A reset behind words that the host holds at a busy port is the next input, and the words stay (R236, R250). -/
theorem nextInput_reset {p : Phase} {held : List Word} (rest : List Input) (hheld : p = .ready → held = []) :
    nextInput p (held.map .request ++ .reset :: rest) = some (.reset, held.map .request ++ rest) := by
  cases p with
  | ready =>
    rw [hheld rfl]
    rfl
  | waitBus =>
    rw [nextInput_held]
    rfl

/-- Settles O39: the reset is the next input in either phase, and block reset writes every register. -/
theorem blockResetSetsEveryRegister : Obligations.BlockResetSetsEveryRegister := by
  unfold Obligations.BlockResetSetsEveryRegister
  intro s held rest hwf hheld hin
  exact step_of_nextInput_reset hwf (hin ▸ nextInput_reset rest hheld)

/-! ## The late answer (R251) -/

/-- In READY an answer at the port is discarded: the step idles on the inputs behind it. -/
theorem step_lateAnswer {s : State} {a : Answer} {rest : List Input} (hwf : s.cfg.wf = true) (hp : s.phase = .ready)
    (hin : s.inputs = .answer a :: rest) : step s = .next (idle { s with inputs := rest }) := by
  simp [step, cycle, hwf, hp, hin, nextInput_ready_cons]

/-- Settles O40: block reset leaves a READY block with the late answer at its port, a READY block discards an answer,
and one with nothing at its port waits. -/
theorem lateAnswerIsDiscarded : Obligations.LateAnswerIsDiscarded := by
  unfold Obligations.LateAnswerIsDiscarded
  refine ⟨fun s a rest hwf _ hin => ?_, fun _ _ _ => step_lateAnswer, fun s hwf _ hin => ?_⟩
  · have hreset : step s = .next (blockReset { s with inputs := .answer a :: rest }) :=
      step_of_nextInput_reset hwf (hin ▸ nextInput_reset (held := []) _ fun _ => rfl)
    have hlate : step (blockReset { s with inputs := .answer a :: rest }) =
        .next (idle (blockReset { s with inputs := rest })) := step_lateAnswer hwf rfl rfl
    exact (run_succ hreset).trans (run_succ hlate)
  · exact step_waits hwf (hin ▸ nextInput_nil s.phase)

/-! ## The reset state (R250) -/

/-- The reset state is the one that block reset leaves of itself. -/
theorem blockReset_resetWith (c : Config) : blockReset (State.resetWith c) = State.resetWith c := rfl

/-- Settles O51: block reset leaves a coherent block, and an empty log is in step with READY. -/
theorem resetIsCoherent : Obligations.ResetIsCoherent := by
  unfold Obligations.ResetIsCoherent
  exact fun c => ⟨blockReset_resetWith c ▸ blockReset_coherent _, logInStep_of_ready rfl rfl rfl⟩

end Sys2Proof.Machine
